-- ==== Sys2Proof/Word.lean ====
section
/-! DEFINITION. The word and address types of the core (00 R8, R9): `DATA_W = 16`, `ADDR_W = 6`. -/

namespace Sys2Proof

/-- A cipher word, and one bus word: 16 bits, bit 0 the least significant (00 R9). -/
abbrev Word := BitVec 16

/-- A word address of the register space: 6 bits, 64 addresses (20 R50). -/
abbrev Addr := BitVec 6

end Sys2Proof
end

