-- ==== Sys2Proof/Machine/Cipher.lean ====
section
/-! DEFINITION. The datapath operations (00 R10, 40 R90 to R97), the schedule as a function (41 R110) and the encryption as a
function (42 R130). The round roles are those of the reference Speck32/64, as 90 C1 and C2 resolve them. -/

namespace Sys2Proof.Machine

/-- `ADD16(a, b) = (a + b) mod 2^16` (40 R91). -/
def add16 (a b : Word) : Word := a + b

/-- `SUB16(a, b) = (a - b) mod 2^16`, used by the inverses only (40 R97). -/
def sub16 (a b : Word) : Word := a - b

/-- `XOR16(a, b)` (40 R92). -/
def xor16 (a b : Word) : Word := a ^^^ b

/-- `ROR16(v, r)` for `0 < r < 16` (00 R10). -/
def ror16 (v : Word) (r : Nat) : Word := (v >>> r) ||| (v <<< (16 - r))

/-- `ROL16(v, r)` for `0 < r < 16` (00 R10). -/
def rol16 (v : Word) (r : Nat) : Word := (v <<< r) ||| (v >>> (16 - r))

/-- `ROR7(v)`, the right rotation by `ALPHA = 7` (40 R93). -/
def ror7 (v : Word) : Word := ror16 v 7

/-- `ROL2(v)`, the left rotation by `BETA = 2` (40 R94). -/
def rol2 (v : Word) : Word := rol16 v 2

/-- `ROUND(x, y, k)`, the five steps in order; the last uses the new `x` (40 R95, R96). -/
def speckRound (x y k : Word) : Word × Word :=
  let x1 := xor16 (add16 (ror7 x) y) k
  let y1 := xor16 (rol2 y) x1
  (x1, y1)

/-- The inverse of `ROUND` for a fixed `k` (40 R97). No command computes it; it is for proofs only. -/
def speckRoundInv (x1 y1 k : Word) : Word × Word :=
  let y := ror16 (xor16 y1 x1) 2
  let x := rol16 (sub16 (xor16 x1 k) y) 7
  (x, y)

/-- A Round-Key Schedule: 22 words (10 R27). -/
abbrev Schedule := Vector Word 22

/-- The loop variables of the schedule function: the buffer `a` and the accumulator `b` (41 R110, R111). -/
structure KeyLoop where
  a : Vector Word 3
  b : Word
deriving DecidableEq, Repr

/-- The loop's start: `b := K0`, `a := [K1, K2, K3]` (41 R111). -/
def keyStart (k0 k1 k2 k3 : Word) : KeyLoop := { a := #v[k1, k2, k3], b := k0 }

/-- Iteration `i`: `(a[j], b) := ROUND(a[j], b, zext_16(i))` with `j = i mod 3` (41 R110, R112 to R114). -/
def keyIterate (i : Nat) (l : KeyLoop) : KeyLoop :=
  let j : Fin 3 := Fin.ofNat 3 i
  let r := speckRound l.a[j] l.b (BitVec.ofNat 16 i)
  { a := l.a.set j r.1, b := r.2 }

/-- The loop variables before iteration `n`, after the iterations 0 to n - 1 (41 R110). -/
def keyLoop (k0 k1 k2 k3 : Word) : Nat → KeyLoop
  | 0 => keyStart k0 k1 k2 k3
  | n + 1 => keyIterate n (keyLoop k0 k1 k2 k3 n)

/-- `EXPAND_FN(K0, K1, K2, K3)`: `S[i]` is the accumulator before iteration `i` (41 R110). -/
def expandFn (k0 k1 k2 k3 : Word) : Schedule := Vector.ofFn fun i => (keyLoop k0 k1 k2 k3 i.val).b

/-- The block `(x, y)` after the first `n` rounds, which use `S[0]` to `S[n - 1]` in order (42 R130, R131). -/
def blockLoop (S : Schedule) (l r : Word) (n : Nat) : Word × Word :=
  (S.toList.take n).foldl (fun p k => speckRound p.1 p.2 k) (l, r)

/-- `ENCRYPT_FN(L, R, S)`: the 22 rounds (42 R130). -/
def encryptFn (l r : Word) (S : Schedule) : Word × Word := blockLoop S l r 22

end Sys2Proof.Machine
end

