-- ==== Sys2Proof/Config.lean ====
section
/-! DEFINITION. What the spec fixes for this hardware (00 R7, R8), its one free value (93 U3) and its open clock
frequency, taken as an argument (92 "Open parameters"). -/

namespace Sys2Proof.Config

/-- `T`: rounds, and round keys in the schedule (00 R7). -/
abbrev rounds : Nat := 22

/-- `LAT_EXPAND`: cycles in which BUSY reads 1 after an EXPAND is accepted (00 R8, 70 R213). -/
abbrev latExpand : Nat := 22

/-- `LAT_ENCRYPT` (00 R8, 70 R213). -/
abbrev latEncrypt : Nat := 22

/-- `LAT_COMBINED` (00 R8, 70 R213). -/
abbrev latCombined : Nat := 44

/-- FREE VALUE (20 R69, 93 U3; log 6): the data of the n-th read that the host presents in a cycle with `rst = 1`.
The spec leaves it open, so nothing here says what it is. -/
opaque resetReadData : Nat → Word

/-- The time in seconds of a number of cycles (70 R213: "The time in seconds is `cycles / F_CLK`"). `F_CLK` is OPEN, "a positive
real parameter" (92), so it is a positive argument, a number of cycles a second. No rule and no other definition depends on it.
DESIGN CHOICE (log 16): its number type is any ordered field `K`, so that the definition computes. The spec's time is `K = ℝ`. -/
def seconds {K : Type} [Field K] [LinearOrder K] (fClk : {f : K // 0 < f}) (cycles : Nat) : K := cycles / fClk.val

end Sys2Proof.Config
end

