-- ==== Sys2Proof/Syntax.lean ====
section
/-! DEFINITION. The commands of the core: one constructor for each row of spec/opcode_table.json (30 R74).
No command has an operand (30 R73). -/

namespace Sys2Proof

/-- A command, the value written to `CMD` (30 R71, R74). -/
inductive Instr where
  /-- NOP, 0x0000 (43 R154). -/
  | nop
  /-- EXPAND, 0x0001 (41 R116): expand the key into the 22 round keys. -/
  | expand
  /-- ENCRYPT, 0x0002 (42 R133): encrypt one block under the schedule in `RK`. -/
  | encrypt
  /-- ENCRYPT_COMBINED, 0x0003 (43 R150): expand, then encrypt. -/
  | encryptCombined
  /-- CLRERR, 0x0004 (43 R155): clear the error record. -/
  | clrerr
deriving DecidableEq, Repr

end Sys2Proof
end

