-- ==== Sys2Proof/WellFormed.lean ====
section
/-! DEFINITION. What is well formed: a command (it has no operand, so every one is, 30 R73) and a CMD16 command word
(its reserved field zero and its opcode assigned, 30 R71, R75). -/

namespace Sys2Proof

/-- No command has an explicit operand (30 R73), so there is nothing in a command that could be out of range. -/
def Instr.wf : Instr → Bool
  | .nop => true
  | .expand => true
  | .encrypt => true
  | .encryptCombined => true
  | .clrerr => true

/-- The reserved field `RSVD = v[15:4]` of a command word is 0 (30 R71). -/
def rsvdZero (v : Word) : Bool := v.extractLsb' 4 12 == 0#12

/-- The opcode `OP = v[3:0]` of a command word is one that 30 R74 assigns: 0x0 to 0x4. -/
def opAssigned (v : Word) : Bool := decide ((v.extractLsb' 0 4).toNat ≤ 4)

/-- A command word is legal when its reserved field is 0 and its opcode assigned (30 R75). -/
def cmdWordWf (v : Word) : Bool := rsvdZero v && opAssigned v

end Sys2Proof
end

