-- ==== Sys2Proof/Decode.lean ====
section
/-! DEFINITION. Decoding of CMD16 command words (30 R71, R74 to R76), total over all 2^16 words, and the encoder. -/

namespace Sys2Proof

/-- Why a word names no command (30 R75). -/
inductive Illegal where
  /-- `RSVD != 0`, whatever the OP. -/
  | reservedField
  /-- `RSVD = 0` and `OP` in 0x5 to 0xF. -/
  | reservedOpcode
deriving DecidableEq, Repr

/-- The `RSVD` field of a command word, bits 15:4 (30 R71). -/
def rsvdField (v : Word) : BitVec 12 := v.extractLsb' 4 12

/-- The `OP` field of a command word, bits 3:0 (30 R71). -/
def opField (v : Word) : BitVec 4 := v.extractLsb' 0 4

/-- The command an opcode names (30 R74), none for 0x5 to 0xF. -/
def opcodeCommand (op : BitVec 4) : Option Instr :=
  if op = 0x0#4 then some .nop
  else if op = 0x1#4 then some .expand
  else if op = 0x2#4 then some .encrypt
  else if op = 0x3#4 then some .encryptCombined
  else if op = 0x4#4 then some .clrerr
  else none

/-- `Decode(v)` of 30 R76. The OP of a word with a non-zero reserved field is not looked at (60 R176). -/
def decode (v : Word) : Except Illegal Instr :=
  if rsvdField v ≠ 0#12 then .error .reservedField
  else match opcodeCommand (opField v) with
    | some i => .ok i
    | none => .error .reservedOpcode

/-- The opcode of a command (30 R74, column OP). -/
def opcode : Instr → BitVec 4
  | .nop => 0x0#4
  | .expand => 0x1#4
  | .encrypt => 0x2#4
  | .encryptCombined => 0x3#4
  | .clrerr => 0x4#4

/-- The CMD16 word of a command: `0000 0000 0000 oooo` (30 R71). -/
def encode (i : Instr) : Word := 0x000#12 ++ opcode i

/-- The command the decoder reads from an opcode-table row's bits. A command word is 16 bits and no command has more
(30 R77): bits of `w` at or above `nbits` are 0, and a number that does not fit a command word is none. -/
def decodeTableWord (nbits w : Nat) : Option Instr :=
  let v := w % 2 ^ nbits
  if v < 65536 then
    match decode (BitVec.ofNat 16 v) with
    | .ok i => some i
    | .error _ => none
  else none

end Sys2Proof
end

