-- ==== Sys2Proof/Machine/Txn.lean ====
section
/-! DEFINITION. What the host presents to the core in a clock cycle (20 R56, 30 R70), the operations of a host program
(30 R78, R79), and the TXN24 listing format (30 R72). -/

namespace Sys2Proof.Machine

/-- The transaction of one cycle: `NONE`, `Read(a)` or `Write(a, v)` (20 R56). -/
inductive Txn where
  | noTxn
  | read (a : Addr)
  | write (a : Addr) (v : Word)
deriving DecidableEq, Repr

/-- The inputs of one cycle (30 R70): `rst`, and `bus_en`, `bus_we`, `bus_addr`, `bus_wdata` as a transaction. A
transaction can stand in a cycle with `rst = 1` (20 R69). -/
structure CycleIn where
  rst : Bool
  txn : Txn
deriving DecidableEq, Repr

/-- One operation of the host. -/
inductive HostOp where
  /-- Present these inputs for one cycle. -/
  | cycle (c : CycleIn)
  /-- `WAIT`: read `STATUS` once per cycle until a read returns bit 0 (BUSY) = 0 (30 R79; log 2). -/
  | wait
deriving DecidableEq, Repr

/-- The address of `CMD` (20 R51). -/
abbrev addrCmd : Addr := 0x00#6

/-- The address of `STATUS` (20 R51). -/
abbrev addrStatus : Addr := 0x01#6

/-- A cycle with `rst = 0` and no transaction: the statement `IDLE` (30 R78). -/
def idleIn : CycleIn := ⟨false, .noTxn⟩

/-- The statement `RD` (30 R78). -/
def readIn (a : Addr) : CycleIn := ⟨false, .read a⟩

/-- The statement `WR` (30 R78). -/
def writeIn (a : Addr) (v : Word) : CycleIn := ⟨false, .write a v⟩

/-- The statement `RST` (30 R78): `rst = 1` and no transaction (30 R72). -/
def rstIn : CycleIn := ⟨true, .noTxn⟩

/-- TXN24 `KIND`, bits 23:22 (30 R72). -/
def txnKind (w : BitVec 24) : BitVec 2 := w.extractLsb' 22 2

/-- TXN24 `ADDR`, bits 21:16 (30 R72). -/
def txnAddr (w : BitVec 24) : Addr := w.extractLsb' 16 6

/-- TXN24 `DATA`, bits 15:0 (30 R72). -/
def txnData (w : BitVec 24) : Word := w.extractLsb' 0 16

/-- The cycle that a TXN24 word spells (30 R72). A word with a field not 0 where the format says 0 spells nothing (log 11). -/
def decodeTxn24 (w : BitVec 24) : Option CycleIn :=
  if txnKind w = 0b00#2 then
    if txnAddr w = 0#6 ∧ txnData w = 0#16 then some idleIn else none
  else if txnKind w = 0b01#2 then
    if txnData w = 0#16 then some (readIn (txnAddr w)) else none
  else if txnKind w = 0b10#2 then some (writeIn (txnAddr w) (txnData w))
  else if txnAddr w = 0#6 ∧ txnData w = 0#16 then some rstIn else none

/-- The TXN24 word of a cycle's inputs (30 R72). `RESET` has `bus_en = 0`, so a transaction under reset has none. -/
def encodeTxn24 : CycleIn → Option (BitVec 24)
  | ⟨false, .noTxn⟩ => some (0b00#2 ++ 0#6 ++ 0#16)
  | ⟨false, .read a⟩ => some (0b01#2 ++ a ++ 0#16)
  | ⟨false, .write a v⟩ => some (0b10#2 ++ a ++ v)
  | ⟨true, .noTxn⟩ => some (0b11#2 ++ 0#6 ++ 0#16)
  | ⟨true, .read _⟩ => none
  | ⟨true, .write _ _⟩ => none

end Sys2Proof.Machine
end

