-- ==== Sys2Proof/Machine/State.lean ====
section
/-! DEFINITION. The state of the core (10 R20) with the model's three own fields, the reasons a step can stop, and the
state after reset (10 R46). -/

namespace Sys2Proof.Machine

/-- `PHASE` encodings (10 R35, R40). The encoding 3 never occurs. -/
abbrev phaseIdle : BitVec 2 := 0#2
/-- `PHASE = KS`: key-schedule rounds. -/
abbrev phaseKS : BitVec 2 := 1#2
/-- `PHASE = ENC`: encryption rounds. -/
abbrev phaseENC : BitVec 2 := 2#2

/-- The core's registers (10 R20), then the model's own fields. -/
structure State where
  /-- `KEY0`, the key's first word (10 R23). -/
  key0 : Word
  /-- `KEY1` (10 R23). -/
  key1 : Word
  /-- `KEY2` (10 R23). -/
  key2 : Word
  /-- `KEY3` (10 R23). -/
  key3 : Word
  /-- `PT_L`, the left plaintext word (10 R24). -/
  ptL : Word
  /-- `PT_R` (10 R24). -/
  ptR : Word
  /-- `CT_L`, the left ciphertext word (10 R25). -/
  ctL : Word
  /-- `CT_R` (10 R25). -/
  ctR : Word
  /-- `CT_VALID` (10 R26). -/
  ctValid : Bool
  /-- `RK[0..21]`, the raw round-key file (10 R27). -/
  rk : Vector Word 22
  /-- `RKV`, bit `i` set when `RK[i]` holds a written value (10 R28). -/
  rkv : BitVec 22
  /-- `ERR` (10 R33). -/
  err : Bool
  /-- `ERRCODE` (10 R34). -/
  errcode : BitVec 4
  /-- `PHASE` (10 R40). -/
  phase : BitVec 2
  /-- `CNT`, the index of the round the current cycle performs (10 R41). -/
  cnt : BitVec 5
  /-- `COMB`, executing ENCRYPT_COMBINED (10 R42). -/
  comb : Bool
  /-- `KS_B`, the key-schedule accumulator (10 R43). -/
  ksB : Word
  /-- `KS_A[0..2]`, the key-schedule buffer (10 R43). -/
  ksA : Vector Word 3
  /-- `DP_X`, the left half of the block being encrypted (10 R44). -/
  dpX : Word
  /-- `DP_Y` (10 R44). -/
  dpY : Word
  /-- The MODEL's own: `bus_rdata` of the cycle just ended, where it presented a read (30 R70; log 3). -/
  rdata : Option Word
  /-- The MODEL's own: how many free values of `Config.resetReadData` have been drawn (log 6). -/
  draws : Nat
  /-- The MODEL's own: the host's coming operations, the next first (log 1). -/
  host : List HostOp
deriving DecidableEq, Repr

/-- The core has no fault: it has no trap (60 R179), "an error is not a fault of the run" (70 R216) and "the core cannot hang"
(70 R216). Nothing raises one, so the type is empty. -/
inductive Fault where
deriving DecidableEq, Repr

/-- Why the model has no meaning for a step. -/
inductive Refusal where
  /-- Raised by an arm of `exec` whose instruction has no meaning yet (there is none). Safe: the model stops. -/
  | notModelled (mnemonic : String)
  /-- Raised by `engineStep` in a cycle without reset while `PHASE = 3`, the power-up encoding that the spec refuses
  (10 R35, 93 U5 and U6; log 7). Safe: no run from reset reaches it, and the model stops. -/
  | phaseReserved
  /-- Raised by `engineStep` in a key-schedule or encryption cycle with `CNT` in 22 to 31, which `CNT` "never holds"
  (10 R41; log 8). Safe: no run from reset reaches it, and the model stops. -/
  | roundOutOfRange
deriving DecidableEq, Repr

/-- A step's outcome on this machine. -/
abbrev Result := Host.Outcome State Fault Refusal

/-- The state after a reset (10 R46, 70 R200), with the registers the spec leaves unspecified at 0 (log 4, log 5), no read
returned (log 3), no free value drawn (log 6) and nothing for the host to do (log 1). -/
def State.reset : State where
  key0 := 0x0000#16
  key1 := 0x0000#16
  key2 := 0x0000#16
  key3 := 0x0000#16
  ptL := 0x0000#16
  ptR := 0x0000#16
  ctL := 0x0000#16
  ctR := 0x0000#16
  ctValid := false
  rk := Vector.replicate 22 0x0000#16
  rkv := 0#22
  err := false
  errcode := 0#4
  phase := phaseIdle
  cnt := 0#5
  comb := false
  ksB := 0x0000#16
  ksA := Vector.replicate 3 0x0000#16
  dpX := 0x0000#16
  dpY := 0x0000#16
  rdata := none
  draws := 0
  host := []

end Sys2Proof.Machine
end

