-- ==== Sys2Proof/Machine/Flags.lean ====
section
/-! DEFINITION. Everything the core shows in `STATUS` (10 R32). The core has no other condition code or flag (10 R39). -/

namespace Sys2Proof.Machine

/-- The core is busy exactly when `PHASE != IDLE`; "idle" means not busy (10 R21). -/
def busy (s : State) : Bool := s.phase != phaseIdle

/-- The mask of a complete schedule, 0x3FFFFF (10 R29). -/
abbrev fullMask : BitVec 22 := 0x3FFFFF#22

/-- `SCHED_VALID = (RKV = 0x3FFFFF)` (10 R29). -/
def schedValid (s : State) : Bool := s.rkv == fullMask

/-- `STATUS = {CNT[4:0], COMB, PHASE[1:0], ERRCODE[3:0], ERR, CT_VALID, SCHED_VALID, BUSY}` (10 R32). -/
def statusWord (s : State) : Word :=
  s.cnt ++ BitVec.ofBool s.comb ++ s.phase ++ s.errcode ++ BitVec.ofBool s.err ++ BitVec.ofBool s.ctValid
    ++ BitVec.ofBool (schedValid s) ++ BitVec.ofBool (busy s)

end Sys2Proof.Machine
end

