-- ==== Sys2Proof/Machine/Operands.lean ====
section
/-! DEFINITION. The register address space (20 R50 to R57): what an address names, what a bus read of it returns and which
addresses are writable. Commands have no other operands than fixed registers (30 R73). -/

namespace Sys2Proof.Machine

/-- The round-key entry that an address 0x20 + i names, for i in 0..21 (20 R51). -/
def rkIndex (a : Addr) : Option (Fin 22) :=
  if h : 0x20 ≤ a.toNat ∧ a.toNat ≤ 0x35 then some ⟨a.toNat - 0x20, by omega⟩ else none

/-- The address of round-key entry `i` (20 R51). -/
def rkAddr (i : Fin 22) : Addr := BitVec.ofNat 6 (0x20 + i.val)

/-- `RKV[i] = 1` (10 R28). -/
def rkWritten (i : Fin 22) (s : State) : Bool := s.rkv.getLsbD i.val

/-- A bus read of `RK[i]`: the entry if it holds a written value, else 0x0000 (10 R29). -/
def rkRead (i : Fin 22) (s : State) : Word := if rkWritten i s then s.rk[i] else 0x0000#16

/-- `RKV_LO = RKV[15:0]` (10 R28). -/
def rkvLo (s : State) : Word := s.rkv.extractLsb' 0 16

/-- `RKV_HI = zext_16(RKV[21:16])` (10 R28). -/
def rkvHi (s : State) : Word := (s.rkv.extractLsb' 16 6).setWidth 16

/-- `ROUNDS` always reads 0x0016 (10 R37). -/
abbrev roundsConst : Word := 0x0016#16

/-- `ID` always reads 0x2040 (10 R38). -/
abbrev idConst : Word := 0x2040#16

/-- `ReadValue(a)` (20 R52), total over the 64 addresses. -/
def readValue (a : Addr) (s : State) : Word :=
  if a = 0x01#6 then statusWord s
  else if a = 0x02#6 then s.key0
  else if a = 0x03#6 then s.key1
  else if a = 0x04#6 then s.key2
  else if a = 0x05#6 then s.key3
  else if a = 0x06#6 then s.ptL
  else if a = 0x07#6 then s.ptR
  else if a = 0x08#6 then s.ctL
  else if a = 0x09#6 then s.ctR
  else if a = 0x0A#6 then rkvLo s
  else if a = 0x0B#6 then rkvHi s
  else if a = 0x0E#6 then roundsConst
  else if a = 0x0F#6 then idConst
  else match rkIndex a with
    | some i => rkRead i s
    | none => 0x0000#16

/-- `WSET = {0x00, 0x02..0x07, 0x20..0x35}`, the writable addresses (20 R51). -/
def inWset (a : Addr) : Bool :=
  a == addrCmd || (decide (0x02 ≤ a.toNat) && decide (a.toNat ≤ 0x07)) || (rkIndex a).isSome

/-- The reserved addresses 0x0C, 0x0D, 0x10 to 0x1F and 0x36 to 0x3F (20 R53). -/
def isReserved (a : Addr) : Bool :=
  a == 0x0C#6 || a == 0x0D#6 || (decide (0x10 ≤ a.toNat) && decide (a.toNat ≤ 0x1F)) || decide (0x36 ≤ a.toNat)

end Sys2Proof.Machine
end

