-- ==== Sys2Proof/Machine/Ops.lean ====
section
/-! DEFINITION. The named operations over the registers: recording an error and clearing the record, the writes a host makes,
the loads a command makes at acceptance, reset, and the host's queue and read data. -/

namespace Sys2Proof.Machine

/-- The error causes (60 R171). -/
inductive ErrCause where
  /-- A write to an address in `WSET` while busy (60 R173). -/
  | busy
  /-- A command word that names no command, while idle (30 R75). -/
  | illegalCmd
  /-- ENCRYPT while idle with `SCHED_VALID = 0` (60 R172). -/
  | noSchedule
deriving DecidableEq, Repr

/-- The code of a cause (10 R34, 60 R171). -/
def ErrCause.code : ErrCause → BitVec 4
  | .busy => 1#4
  | .illegalCmd => 2#4
  | .noSchedule => 3#4

/-- `raise Error(code)` (00 R13, 60 R174): the one way an error is taken. It records the code only when `ERR = 0`, and
changes nothing else. -/
def raiseError (c : ErrCause) (s : State) : State :=
  { s with err := true, errcode := if s.err then s.errcode else c.code }

/-- The error record cleared: the return from the error state (43 R155, 60 R180). -/
def clearError (s : State) : State := { s with err := false, errcode := 0#4 }

/-- `RKV[i] <- 1` (10 R28). -/
def setRkv (i : Fin 22) (m : BitVec 22) : BitVec 22 := m ||| (1#22 <<< i.val)

/-- A host write of a round-key entry: `RK[i] <- v; RKV[i] <- 1` (10 R30). -/
def writeRk (i : Fin 22) (v : Word) (s : State) : State :=
  { s with rk := s.rk.set i v, rkv := setRkv i s.rkv }

/-- The register writes of `HostWrite` while idle, at any address but `CMD` (20 R57). -/
def writeRegister (a : Addr) (v : Word) (s : State) : State :=
  if a = 0x02#6 then { s with key0 := v }
  else if a = 0x03#6 then { s with key1 := v }
  else if a = 0x04#6 then { s with key2 := v }
  else if a = 0x05#6 then { s with key3 := v }
  else if a = 0x06#6 then { s with ptL := v }
  else if a = 0x07#6 then { s with ptR := v }
  else match rkIndex a with
    | some i => writeRk i v s
    | none => s

/-- The key-schedule loads of an accepting cycle: `KS_B`, `KS_A` from `KEY`, and `RKV <- 0` (41 R116, 43 R150). -/
def loadKeyEngine (s : State) : State :=
  { s with ksB := s.key0, ksA := #v[s.key1, s.key2, s.key3], rkv := 0#22 }

/-- The block loads of an accepting cycle: `DP_X`, `DP_Y` from `PT`, and `CT_VALID <- 0` (42 R133, 43 R150). -/
def loadBlock (s : State) : State :=
  { s with dpX := s.ptL, dpY := s.ptR, ctValid := false }

/-- The sequencer's start of a command: `PHASE <- p; CNT <- 0; COMB <- c` (10 R40 to R42). -/
def startPhase (p : BitVec 2) (c : Bool) (s : State) : State :=
  { s with phase := p, cnt := 0#5, comb := c }

/-- `ResetState()` (70 R200). `RK`, `KS_B`, `KS_A`, `DP_X` and `DP_Y` are not written. -/
def resetRegisters (s : State) : State :=
  { s with
    key0 := 0x0000#16, key1 := 0x0000#16, key2 := 0x0000#16, key3 := 0x0000#16
    ptL := 0x0000#16, ptR := 0x0000#16, ctL := 0x0000#16, ctR := 0x0000#16
    ctValid := false, rkv := 0#22, err := false, errcode := 0#4
    phase := phaseIdle, cnt := 0#5, comb := false }

/-- The word a read returns, on `bus_rdata` in this cycle (20 R56). -/
def returnRead (v : Word) (s : State) : State := { s with rdata := some v }

/-- A read under reset returns an unspecified value: a free draw (20 R69, 93 U3; log 6). -/
def returnFreeRead (s : State) : State :=
  { s with rdata := some (Config.resetReadData s.draws), draws := s.draws + 1 }

/-- The host's queue becomes `rest`, and the last cycle's read data is gone. -/
def nextCycle (rest : List HostOp) (s : State) : State := { s with host := rest, rdata := none }

/-- What follows a part of a step that answered a next state. -/
def andThen (o : Result) (f : State → State) : Result :=
  match o with
  | .next s => .next (f s)
  | .fault r => .fault r
  | .refused r => .refused r

end Sys2Proof.Machine
end

