-- ==== Sys2Proof/Machine/Engine.lean ====
section
/-! DEFINITION. The engines' cycles (10 R40, 41 R117, 42 R134), the cycle of a rejected write (60 R173), and the cycle of a
command write (60 R172). -/

namespace Sys2Proof.Machine

/-- One key-schedule cycle, `KSCycle()` with `i = CNT` (41 R117). Every right side reads the state before the edge. -/
def ksCycle (i : Fin 22) (s : State) : State :=
  let j : Fin 3 := Fin.ofNat 3 i.val
  let r := speckRound s.ksA[j] s.ksB (s.cnt.setWidth 16)
  { s with
    rk := s.rk.set i s.ksB
    rkv := setRkv i s.rkv
    ksA := s.ksA.set j r.1
    ksB := r.2
    phase := if i.val = 21 then (if s.comb then phaseENC else phaseIdle) else s.phase
    cnt := if i.val = 21 then 0#5 else s.cnt + 1#5 }

/-- One encryption cycle, `ENCCycle()` with `i = CNT` (42 R134). It reads the raw entry `RK[i]`. -/
def encCycle (i : Fin 22) (s : State) : State :=
  let r := speckRound s.dpX s.dpY s.rk[i]
  { s with
    dpX := r.1
    dpY := r.2
    ctL := if i.val = 21 then r.1 else s.ctL
    ctR := if i.val = 21 then r.2 else s.ctR
    ctValid := if i.val = 21 then true else s.ctValid
    phase := if i.val = 21 then phaseIdle else s.phase
    cnt := if i.val = 21 then 0#5 else s.cnt + 1#5
    comb := if i.val = 21 then false else s.comb }

/-- An engine cycle at the round `CNT`, which never holds 22 to 31 (10 R41; log 8). -/
def atRound (f : Fin 22 → State → State) (s : State) : Result :=
  if h : s.cnt.toNat < 22 then .next (f ⟨s.cnt.toNat, h⟩ s) else .refused .roundOutOfRange

/-- `EngineStep()` (10 R40, 20 R56): a KS cycle, an ENC cycle, or nothing while idle. `PHASE = 3` is refused (93 U6; log 7). -/
def engineStep (s : State) : Result :=
  if s.phase = phaseIdle then .next s
  else if s.phase = phaseKS then atRound ksCycle s
  else if s.phase = phaseENC then atRound encCycle s
  else .refused .phaseReserved

/-- A write to a `WSET` address while busy: the engine step still happens, the write is dropped and BUSY raised
(60 R173, R175). The engine leaves `ERR` and `ERRCODE` alone, so raising after it reads their values before the edge (log 10). -/
def rejectBusy (s : State) : Result := andThen (engineStep s) (raiseError .busy)

/-- The cycle of a write to `CMD` of a word whose effect while idle is `accept` (60 R172, R173): BUSY comes first (60 R176).
While idle the engine step does nothing (10 R40). -/
def commandCycle (accept : State → State) (s : State) : Result :=
  if busy s then rejectBusy s else .next (accept s)

/-- The cycle of a write to `CMD` of a word that names no command (30 R75, 60 R172). -/
def illegalCommand (s : State) : Result := commandCycle (raiseError .illegalCmd) s

end Sys2Proof.Machine
end

