-- ==== Sys2Proof/Machine/BlockEncryption.lean ====
section
/-! DEFINITION. ENCRYPT (42 R133). Its 22 encryption cycles are `encCycle` (42 R134). -/

namespace Sys2Proof.Machine

/-- `AcceptENCRYPT()` (42 R133). -/
def acceptEncrypt (s : State) : State := startPhase phaseENC false (loadBlock s)

/-- The cycle in which the host writes ENCRYPT to `CMD`; without a complete schedule it records NO_SCHEDULE (60 R172). -/
def execEncrypt (s : State) : Result :=
  commandCycle (fun s => if schedValid s then acceptEncrypt s else raiseError .noSchedule s) s

end Sys2Proof.Machine
end

