-- ==== Sys2Proof/Machine/CombinedAndControl.lean ====
section
/-! DEFINITION. ENCRYPT_COMBINED (43 R150) and the control commands NOP (43 R154) and CLRERR (43 R155). -/

namespace Sys2Proof.Machine

/-- `AcceptCOMBINED()` (43 R150). -/
def acceptCombined (s : State) : State := startPhase phaseKS true (loadBlock (loadKeyEngine s))

/-- The cycle in which the host writes ENCRYPT_COMBINED to `CMD`. -/
def execEncryptCombined (s : State) : Result := commandCycle acceptCombined s

/-- The cycle in which the host writes NOP to `CMD`; `AcceptNOP()` changes no state (43 R154). -/
def execNop (s : State) : Result := commandCycle (fun s => s) s

/-- The cycle in which the host writes CLRERR to `CMD`; `AcceptCLRERR()` clears the error record (43 R155). -/
def execClrerr (s : State) : Result := commandCycle clearError s

end Sys2Proof.Machine
end

