-- ==== Sys2Proof/Machine/KeySchedule.lean ====
section
/-! DEFINITION. EXPAND (41 R116). Its 22 key-schedule cycles are `ksCycle` (41 R117). -/

namespace Sys2Proof.Machine

/-- `AcceptEXPAND()` (41 R116). -/
def acceptExpand (s : State) : State := startPhase phaseKS false (loadKeyEngine s)

/-- The cycle in which the host writes EXPAND to `CMD`. -/
def execExpand (s : State) : Result := commandCycle acceptExpand s

end Sys2Proof.Machine
end

