-- ==== Sys2Proof/Machine/Dispatch.lean ====
section
/-! DEFINITION. The meaning of a command: the whole clock cycle in which the host writes its word to `CMD` (log 9). -/

namespace Sys2Proof.Machine

def exec (i : Instr) (s : State) : Host.Outcome State Fault Refusal :=
  match i with
  | .nop => Sys2Proof.Machine.execNop s
  | .expand => Sys2Proof.Machine.execExpand s
  | .encrypt => Sys2Proof.Machine.execEncrypt s
  | .encryptCombined => Sys2Proof.Machine.execEncryptCombined s
  | .clrerr => Sys2Proof.Machine.execClrerr s

end Sys2Proof.Machine
end

