-- ==== Sys2Proof/Machine/Bus.lean ====
section
/-! DEFINITION. The bus: `HostWrite` (20 R57), the cycle (20 R56) and the host's next inputs (30 R78, R79). -/

namespace Sys2Proof.Machine

/-- `Command(v)` with the busy check before it: decode, then the command's meaning or ILLEGAL_CMD (60 R172, R176). -/
def commandWord (v : Word) (s : State) : Result :=
  match decode v with
  | .ok i => exec i s
  | .error _ => illegalCommand s

/-- A cycle that writes `v` to address `a`: `EngineStep()` and `HostWrite(a, v, busy0)` (20 R56, R57). -/
def hostWrite (a : Addr) (v : Word) (s : State) : Result :=
  if a = addrCmd then commandWord v s
  else if inWset a then (if busy s then rejectBusy s else .next (writeRegister a v s))
  else engineStep s

/-- A cycle that reads address `a`: the value is of the state before the edge (20 R56), and nothing else changes (20 R54). -/
def hostRead (a : Addr) (s : State) : Result := andThen (engineStep s) (returnRead (readValue a s))

/-- A cycle with `rst = 1`: `ResetState()` and nothing else; a write is discarded, a read returns a free value (70 R200, 20 R69). -/
def resetCycle (t : Txn) (s : State) : State :=
  match t with
  | .noTxn => resetRegisters s
  | .read _ => returnFreeRead (resetRegisters s)
  | .write _ _ => resetRegisters s

/-- `Cycle(rst, txn)` (20 R56). -/
def cycle (c : CycleIn) (s : State) : Result :=
  if c.rst then .next (resetCycle c.txn s)
  else match c.txn with
    | .noTxn => engineStep s
    | .read a => hostRead a s
    | .write a v => hostWrite a v s

/-- The cycles of a list of inputs, one after another, each from a state whose read data of the last cycle is gone. -/
def runCycles : List CycleIn → State → Result
  | [], s => .next s
  | c :: cs, s =>
    match cycle c (nextCycle s.host s) with
    | .next t => runCycles cs t
    | .fault r => .fault r
    | .refused r => .refused r

/-- What the host presents in the coming cycle: its next operation; `NONE` where it has none (70 R216; log 1). `WAIT` presents
a read of `STATUS` (30 R79). -/
def hostInput (s : State) : CycleIn :=
  match s.host with
  | [] => idleIn
  | .cycle c :: _ => c
  | .wait :: _ => readIn addrStatus

/-- The host's operations after the coming cycle: `WAIT` stays until its read returns BUSY = 0 (30 R79; log 2). -/
def hostRest (s : State) : List HostOp :=
  match s.host with
  | [] => []
  | .cycle _ :: rest => rest
  | .wait :: rest => if busy s then .wait :: rest else rest

/-- One clock cycle, with the inputs the host presents in it. -/
def clockEdge (s : State) : Result := cycle (hostInput s) (nextCycle (hostRest s) s)

/-- The host's next operation is a write of the command word `v` to `CMD`. -/
def withCommandWrite (v : Word) (s : State) : State :=
  { s with host := .cycle (writeIn addrCmd v) :: s.host }

end Sys2Proof.Machine
end

