-- ==== Sys2Proof/Machine/Step.lean ====
section
/-! DEFINITION. One step is one clock cycle (00 R11, 20 R56). -/

namespace Sys2Proof.Machine

/-- One clock cycle of the core and its host. -/
def step (s : State) : Host.Outcome State Fault Refusal := clockEdge s

/-- The command word whose bits are `w`, placed where the next step takes its command: the host's next operation is the
write of that word to `CMD` (log 12). Its bits at or above `nbits` are 0. -/
def State.withFetchWord (s : State) (nbits w : Nat) : State :=
  withCommandWrite (BitVec.ofNat 16 (w % 2 ^ nbits)) s

end Sys2Proof.Machine
end

