-- ==== Sys2Proof/Safety.lean ====
section
/-! DEFINITION. The terms claims are stated in: the invariant of the registers, the agreement of a running command with the
cipher functions, what two states may differ in, and which host programs and transactions keep to the spec's duties. -/

namespace Sys2Proof.Machine

/-- The mask with the low `n` bits set, `2^n - 1` (41 R119). -/
def lowMask (n : Nat) : BitVec 22 := BitVec.ofNat 22 (2 ^ n - 1)

/-- What the spec says of the registers in every state that a run from reset reaches. -/
structure Inv (s : State) : Prop where
  /-- PHASE is IDLE, KS or ENC; "The value 3 never occurs" (10 R35). -/
  phaseLegal : s.phase = phaseIdle ∨ s.phase = phaseKS ∨ s.phase = phaseENC
  /-- CNT "never holds 22 to 31" (10 R41). -/
  cntLegal : s.cnt.toNat < 22
  /-- CNT "is 0 whenever `PHASE = IDLE`" (10 R41). -/
  idleCnt : s.phase = phaseIdle → s.cnt = 0#5
  /-- COMB "is 0 whenever `PHASE = IDLE`" (10 R42). -/
  idleComb : s.phase = phaseIdle → s.comb = false
  /-- "`ERR = 0` implies `ERRCODE = 0`" (10 R34). -/
  noError : s.err = false → s.errcode = 0#4
  /-- With an error recorded the code is one of the three causes; 4 to 15 are "never produced" (10 R34). -/
  errorCode : s.err = true → s.errcode = 1#4 ∨ s.errcode = 2#4 ∨ s.errcode = 3#4
  /-- In the key-schedule phase exactly the entries below CNT are marked (41 R119). -/
  ksMask : s.phase = phaseKS → s.rkv = lowMask s.cnt.toNat
  /-- In the encryption phase the schedule is complete (42 R133, 43 R150). -/
  encMask : s.phase = phaseENC → s.rkv = fullMask
  /-- During an encryption CT_VALID is 0 (42 R133). -/
  encCt : s.phase = phaseENC → s.ctValid = false
  /-- During ENCRYPT_COMBINED CT_VALID is 0 from acceptance on (43 R150). -/
  combCt : s.phase = phaseKS → s.comb = true → s.ctValid = false

/-- The schedule of the key that KEY0 to KEY3 hold. -/
def keySchedule (s : State) : Schedule := expandFn s.key0 s.key1 s.key2 s.key3

/-- The loop variables of the schedule function for that key, before iteration `n`. -/
def keyProgress (s : State) (n : Nat) : KeyLoop := keyLoop s.key0 s.key1 s.key2 s.key3 n

/-- A running command agrees with the cipher functions (41 R119, 42 R138, 43 R151). The host cannot change KEY, PT or RK while
the command runs (10 R49), so the inputs at acceptance are those the registers hold. -/
structure Progress (s : State) : Prop where
  /-- KS_A and KS_B hold the loop variables of iteration CNT. -/
  ksLoop : s.phase = phaseKS → s.ksA = (keyProgress s s.cnt.toNat).a ∧ s.ksB = (keyProgress s s.cnt.toNat).b
  /-- The entries below CNT hold their final values. -/
  ksEntries : s.phase = phaseKS → ∀ i : Fin 22, i.val < s.cnt.toNat → s.rk[i] = (keySchedule s)[i]
  /-- ENCRYPT_COMBINED keeps the plaintext in DP_X, DP_Y through its key-schedule phase. -/
  combBlock : s.phase = phaseKS → s.comb = true → s.dpX = s.ptL ∧ s.dpY = s.ptR
  /-- DP_X and DP_Y hold the block after CNT rounds under RK. -/
  encBlock : s.phase = phaseENC → (s.dpX, s.dpY) = blockLoop s.rk s.ptL s.ptR s.cnt.toNat
  /-- In the encryption phase of ENCRYPT_COMBINED, RK is the schedule of KEY. -/
  combSchedule : s.phase = phaseENC → s.comb = true → s.rk = keySchedule s

/-- The block registers DP_X and DP_Y are in use: an encryption runs, or ENCRYPT_COMBINED builds its schedule. -/
def blockInUse (s : State) : Prop := s.phase = phaseENC ∨ (s.phase = phaseKS ∧ s.comb = true)

/-- Two states that differ at most in what 10 R47 calls unobservable: the round-key entries with `RKV[i] = 0` and the working
registers outside the phases that use them. -/
structure SameVisible (s t : State) : Prop where
  key : s.key0 = t.key0 ∧ s.key1 = t.key1 ∧ s.key2 = t.key2 ∧ s.key3 = t.key3
  block : s.ptL = t.ptL ∧ s.ptR = t.ptR ∧ s.ctL = t.ctL ∧ s.ctR = t.ctR ∧ s.ctValid = t.ctValid
  mask : s.rkv = t.rkv
  error : s.err = t.err ∧ s.errcode = t.errcode
  sequencer : s.phase = t.phase ∧ s.cnt = t.cnt ∧ s.comb = t.comb
  entries : ∀ i : Fin 22, rkWritten i s = true → s.rk[i] = t.rk[i]
  ks : s.phase = phaseKS → s.ksB = t.ksB ∧ s.ksA = t.ksA
  dp : blockInUse s → s.dpX = t.dpX ∧ s.dpY = t.dpY
  port : s.rdata = t.rdata ∧ s.draws = t.draws
  hosts : s.host = t.host

/-- Two operations of the host that differ at most in the data of a write to another address than `CMD`: a key, plaintext
or schedule word (70 R214). -/
def sameShape : HostOp → HostOp → Prop
  | .cycle ⟨r, .write a v⟩, .cycle ⟨q, .write b w⟩ => r = q ∧ a = b ∧ (a = addrCmd → v = w)
  | x, y => x = y

/-- Two states that agree in the sequencer, the masks and the error record, and whose hosts go on alike but for the data they
write: they may differ in every key, plaintext, ciphertext and schedule word (70 R214). -/
structure SameControl (s t : State) : Prop where
  sequencer : s.phase = t.phase ∧ s.cnt = t.cnt ∧ s.comb = t.comb
  mask : s.rkv = t.rkv
  valid : s.ctValid = t.ctValid
  error : s.err = t.err ∧ s.errcode = t.errcode
  hosts : List.Forall₂ sameShape s.host t.host

/-- No cycle of the list has `rst = 1`. -/
def noReset (cs : List CycleIn) : Prop := ∀ c ∈ cs, c.rst = false

/-- The inputs are an accepted CLRERR: a write of its word to CMD, without reset, while the core is idle (43 R155). -/
def clearsError (c : CycleIn) (s : State) : Prop := c = writeIn addrCmd (encode .clrerr) ∧ busy s = false

/-- The inputs raise an error in the state (60 R171): a write to WSET while busy, an illegal command word, or ENCRYPT without
a complete schedule. -/
def raisesError (c : CycleIn) (s : State) : Prop :=
  ∃ a v, c = writeIn a v ∧ inWset a = true ∧
    (busy s = true ∨ (a = addrCmd ∧ (cmdWordWf v = false ∨ (v = encode .encrypt ∧ schedValid s = false))))

/-- The host's duty of 70 R215 in the coming cycle: it writes to WSET only while the core is idle. -/
def hostDutiful (s : State) : Bool :=
  match hostInput s with
  | ⟨false, .write a _⟩ => !(inWset a && busy s)
  | _ => true

/-- The address an operation of the host accesses, if any. -/
def accessed : HostOp → Option Addr
  | .cycle ⟨_, .noTxn⟩ => none
  | .cycle ⟨_, .read a⟩ => some a
  | .cycle ⟨_, .write a _⟩ => some a
  | .wait => some addrStatus

/-- A host program the spec admits: it begins with a reset (93 U5, 70 R203) and accesses no reserved address (93 U8). The core
itself computes reserved accesses exactly (20 R53), and State.reset is the state after that first reset. -/
def admittedProgram (ops : List HostOp) : Bool :=
  (match ops with
    | .cycle ⟨true, .noTxn⟩ :: _ => true
    | _ => false)
  && ops.all fun o => match accessed o with
    | some a => !isReserved a
    | none => true

end Sys2Proof.Machine
end

