-- ==== Sys2Proof/Certificates/Slice0/Obligations.lean ====
section
/-! DEFINITION. The statements for the provers. Each docstring names the rule of spec/ it formalises. -/

open Sys2Proof Sys2Proof.Machine

/-! ## Word arithmetic (40) -/

/-- 40 R91: ADD16 is addition modulo 2^16, with its corner cases and its example. -/
def Obligations.Add16WrapsModulo65536 : Prop :=
  (∀ a b : Word, (add16 a b).toNat = (a.toNat + b.toNat) % 65536 ∧ add16 a b = add16 b a ∧ add16 a 0#16 = a) ∧
  add16 0xFFFF#16 0x0001#16 = 0x0000#16 ∧ add16 0x8000#16 0x8000#16 = 0x0000#16 ∧
  add16 0xE8CA#16 0x694C#16 = 0x5216#16

/-- 40 R92: XOR16 bit by bit, with its corner cases and its example. -/
def Obligations.Xor16IsBitwise : Prop :=
  (∀ (a b : Word) (j : Nat), j < 16 → (xor16 a b).getLsbD j = (a.getLsbD j).xor (b.getLsbD j)) ∧
  (∀ a : Word, xor16 a a = 0#16 ∧ xor16 a 0#16 = a ∧ xor16 a 0xFFFF#16 = ~~~a) ∧
  xor16 0x5216#16 0x0100#16 = 0x5316#16

/-- 40 R93: ROR7 as shifts of unbounded integers and as a permutation of bits, with its corner cases and its example. -/
def Obligations.Ror7RotatesRightBySeven : Prop :=
  (∀ v : Word, (ror7 v).toNat = (v.toNat >>> 7 ||| v.toNat <<< 9) % 65536) ∧
  (∀ (v : Word) (j : Nat), j < 16 → (ror7 v).getLsbD j = v.getLsbD ((j + 7) % 16)) ∧
  ror7 0x0000#16 = 0x0000#16 ∧ ror7 0xFFFF#16 = 0xFFFF#16 ∧ ror7 0x0080#16 = 0x0001#16 ∧ ror7 0x0001#16 = 0x0200#16 ∧
  ror7 0x8000#16 = 0x0100#16 ∧ ror7 0x6574#16 = 0xE8CA#16

/-- 40 R94: ROL2 as shifts of unbounded integers and as a permutation of bits (bit j of the result is bit (j - 2) mod 16, which
is (j + 14) mod 16, of the operand), with its corner cases and its example. -/
def Obligations.Rol2RotatesLeftByTwo : Prop :=
  (∀ v : Word, (rol2 v).toNat = (v.toNat <<< 2 ||| v.toNat >>> 14) % 65536) ∧
  (∀ (v : Word) (j : Nat), j < 16 → (rol2 v).getLsbD j = v.getLsbD ((j + 14) % 16)) ∧
  rol2 0x4000#16 = 0x0001#16 ∧ rol2 0x8000#16 = 0x0002#16 ∧ rol2 0xC000#16 = 0x0003#16 ∧ rol2 0xFFFF#16 = 0xFFFF#16 ∧
  rol2 0x0001#16 = 0x0004#16 ∧ rol2 0x694C#16 = 0xA531#16

/-- 40 R95: ROUND is the five steps in order, said with Lean's own rotations, addition and exclusive or; with its corner cases
and its example. -/
def Obligations.RoundIsTheFiveSteps : Prop :=
  (∀ x y k : Word, (speckRound x y k).1 = (x.rotateRight 7 + y) ^^^ k ∧
    (speckRound x y k).2 = y.rotateLeft 2 ^^^ ((x.rotateRight 7 + y) ^^^ k)) ∧
  speckRound 0#16 0#16 0#16 = (0#16, 0#16) ∧ speckRound 0xFFFF#16 0xFFFF#16 0#16 = (0xFFFE#16, 0x0001#16) ∧
  speckRound 0#16 0#16 0xFFFF#16 = (0xFFFF#16, 0xFFFF#16) ∧
  speckRound 0x6574#16 0x694C#16 0x0100#16 = (0x5316#16, 0xF627#16)

/-- 40 R97: for each fixed k, ROUND is a bijection on pairs of words, and the spec's formulas give its inverse. -/
def Obligations.RoundIsABijectionForEachKey : Prop :=
  ∀ k : Word, Function.Bijective (fun p : Word × Word => speckRound p.1 p.2 k) ∧
    ∀ x y : Word, (ror16 (xor16 (speckRound x y k).2 (speckRound x y k).1) 2 = y) ∧
      rol16 (sub16 (xor16 (speckRound x y k).1 k) y) 7 = x ∧
      speckRound (speckRoundInv x y k).1 (speckRoundInv x y k).2 k = (x, y)

/-! ## The schedule and the encryption as functions (41, 42) -/

/-- 41 R111 and R113: the loop starts from the key's words, round key 0 is KEY0, each schedule entry is the accumulator before its
iteration, iteration i gives `a[i mod 3]` and `b` new values by R112, and the two other buffer words keep theirs. -/
def Obligations.KeyIterationFollowsTheReferenceRoles : Prop :=
  ∀ k0 k1 k2 k3 : Word,
    (keyLoop k0 k1 k2 k3 0).b = k0 ∧ (keyLoop k0 k1 k2 k3 0).a = #v[k1, k2, k3] ∧ (expandFn k0 k1 k2 k3)[0] = k0 ∧
    ∀ i : Fin 22,
      (expandFn k0 k1 k2 k3)[i] = (keyLoop k0 k1 k2 k3 i.val).b ∧
      ∀ j : Fin 3,
        (j.val = i.val % 3 →
          (keyLoop k0 k1 k2 k3 (i.val + 1)).a[j] =
            ((keyLoop k0 k1 k2 k3 i.val).a[j].rotateRight 7 + (keyLoop k0 k1 k2 k3 i.val).b) ^^^ BitVec.ofNat 16 i.val ∧
          (keyLoop k0 k1 k2 k3 (i.val + 1)).b =
            (keyLoop k0 k1 k2 k3 i.val).b.rotateLeft 2 ^^^ (keyLoop k0 k1 k2 k3 (i.val + 1)).a[j]) ∧
        (j.val ≠ i.val % 3 → (keyLoop k0 k1 k2 k3 (i.val + 1)).a[j] = (keyLoop k0 k1 k2 k3 i.val).a[j])

/-- 41 R122: the first four schedule words give the key by the spec's formulas, so different keys have different schedules. -/
def Obligations.ScheduleDeterminesTheKey : Prop :=
  (∀ k0 k1 k2 k3 : Word,
    k0 = (expandFn k0 k1 k2 k3)[0] ∧
    k1 = rol16 (sub16 (xor16 (expandFn k0 k1 k2 k3)[1] (rol2 (expandFn k0 k1 k2 k3)[0])) (expandFn k0 k1 k2 k3)[0]) 7 ∧
    k2 = rol16 (sub16 (xor16 (xor16 (expandFn k0 k1 k2 k3)[2] (rol2 (expandFn k0 k1 k2 k3)[1])) 0x0001#16)
      (expandFn k0 k1 k2 k3)[1]) 7 ∧
    k3 = rol16 (sub16 (xor16 (xor16 (expandFn k0 k1 k2 k3)[3] (rol2 (expandFn k0 k1 k2 k3)[2])) 0x0002#16)
      (expandFn k0 k1 k2 k3)[2]) 7) ∧
  ∀ k0 k1 k2 k3 m0 m1 m2 m3 : Word, expandFn k0 k1 k2 k3 = expandFn m0 m1 m2 m3 → k0 = m0 ∧ k1 = m1 ∧ k2 = m2 ∧ k3 = m3

/-- 42 section 3 (Determinism) and 40 section on the inverse: for every fixed schedule, each ciphertext block has exactly one
plaintext block. -/
def Obligations.EncryptionIsABijectionOnBlocks : Prop :=
  ∀ S : Schedule, Function.Bijective (fun p : Word × Word => encryptFn p.1 p.2 S)

/-- 42 R131: round i uses S[i]; the block after i + 1 rounds is ROUND of the block after i rounds with S[i], from the plaintext,
and the ciphertext is the block after the 22nd. -/
def Obligations.RoundKeysAreUsedInScheduleOrder : Prop :=
  ∀ (S : Schedule) (l r : Word),
    blockLoop S l r 0 = (l, r) ∧ encryptFn l r S = blockLoop S l r 22 ∧
    ∀ i : Fin 22, blockLoop S l r (i.val + 1) = speckRound (blockLoop S l r i.val).1 (blockLoop S l r i.val).2 S[i]

/-! ## The commands at acceptance, and their rejection (41, 42, 43, 60) -/

/-- 43 R154: NOP has the word 0x0000; written while idle it changes no state, and while busy it is rejected with BUSY. -/
def Obligations.NopChangesNothing : Prop :=
  encode .nop = 0x0000#16 ∧
  (∀ s : State, s.phase = phaseIdle → exec .nop s = .next s) ∧
  ∀ s u : State, s.phase ≠ phaseIdle → engineStep s = .next u →
    exec .nop s = .next { u with err := true, errcode := if s.err then s.errcode else 1#4 }

/-- 43 R155: CLRERR has the word 0x0004; written while idle it sets ERR and ERRCODE to 0 and nothing else, so it is a no-op
when they are 0; while busy it is rejected with BUSY; and STATUS 0x0038 becomes 0x0000. -/
def Obligations.ClrerrClearsTheErrorRecord : Prop :=
  encode .clrerr = 0x0004#16 ∧
  (∀ s : State, s.phase = phaseIdle → exec .clrerr s = .next { s with err := false, errcode := 0#4 }) ∧
  (∀ s : State, s.phase = phaseIdle → s.err = false → s.errcode = 0#4 → exec .clrerr s = .next s) ∧
  (∀ s t : State, statusWord s = 0x0038#16 → exec .clrerr s = .next t → statusWord t = 0x0000#16) ∧
  ∀ s u : State, s.phase ≠ phaseIdle → engineStep s = .next u →
    exec .clrerr s = .next { u with err := true, errcode := if s.err then s.errcode else 1#4 }

/-- 41 section 2, the accepting cycle: EXPAND, written while idle (whatever ERR is), loads the key-schedule engine, clears RKV and
starts the KS phase; every other register keeps its value. -/
def Obligations.ExpandIsAcceptedWhileIdle : Prop :=
  encode .expand = 0x0001#16 ∧
  ∀ s : State, s.phase = phaseIdle →
    exec .expand s = .next { s with
      ksB := s.key0, ksA := #v[s.key1, s.key2, s.key3], rkv := 0#22, phase := 1#2, cnt := 0#5, comb := false }

/-- 42 section 2, the accepting cycle: ENCRYPT, written while idle with a complete schedule (whatever ERR is), loads the block,
clears CT_VALID and starts the ENC phase; every other register keeps its value. Without a complete schedule it records NO_SCHEDULE
(code 3) and does nothing else. -/
def Obligations.EncryptIsAcceptedWithACompleteSchedule : Prop :=
  encode .encrypt = 0x0002#16 ∧
  (∀ s : State, s.phase = phaseIdle → s.rkv = 0x3FFFFF#22 →
    exec .encrypt s = .next { s with
      dpX := s.ptL, dpY := s.ptR, ctValid := false, phase := 2#2, cnt := 0#5, comb := false }) ∧
  ∀ s : State, s.phase = phaseIdle → s.rkv ≠ 0x3FFFFF#22 →
    exec .encrypt s = .next { s with err := true, errcode := if s.err then s.errcode else 3#4 }

/-- 43 section 1, the accepting cycle: ENCRYPT_COMBINED, written while idle (whatever ERR and RKV are), makes the loads of both
and starts the KS phase with COMB = 1; every other register keeps its value. -/
def Obligations.CombinedIsAcceptedWhileIdle : Prop :=
  encode .encryptCombined = 0x0003#16 ∧
  ∀ s : State, s.phase = phaseIdle →
    exec .encryptCombined s = .next { s with
      ksB := s.key0, ksA := #v[s.key1, s.key2, s.key3], rkv := 0#22, dpX := s.ptL, dpY := s.ptR, ctValid := false,
      phase := 1#2, cnt := 0#5, comb := true }

/-- 60 R176: exactly one cause of a write to CMD is reported, BUSY first whatever the word, then ILLEGAL_CMD for a word that is
not one of the five, then NO_SCHEDULE; said with ERR = 0, where the report is the new ERRCODE. -/
def Obligations.OneErrorIsReportedInPriorityOrder : Prop :=
  ∀ (s t : State) (v : Word), s.err = false → hostWrite addrCmd v s = .next t →
    (s.phase ≠ phaseIdle → t.err = true ∧ t.errcode = 1#4) ∧
    (s.phase = phaseIdle → 4 < v.toNat → t = { s with err := true, errcode := 2#4 }) ∧
    (s.phase = phaseIdle → v = 0x0002#16 → s.rkv ≠ 0x3FFFFF#22 → t = { s with err := true, errcode := 3#4 }) ∧
    (s.phase = phaseIdle → v.toNat ≤ 4 → v ≠ 0x0004#16 → (v = 0x0002#16 → s.rkv = 0x3FFFFF#22) →
      t.err = false ∧ t.errcode = s.errcode) ∧
    (s.phase = phaseIdle → v = 0x0004#16 → t.err = false ∧ t.errcode = 0#4)

/-- 30 R75: a word with a non-zero reserved field or an opcode in 0x5 to 0xF is illegal; written while idle it raises ILLEGAL_CMD
(code 2) and has no other effect, and written while busy it raises BUSY instead. -/
def Obligations.IllegalWordsAreRecordedAndDropped : Prop :=
  ∀ (s : State) (v : Word), (v.toNat / 16 ≠ 0 ∨ 5 ≤ v.toNat % 16) →
    (∀ i, decode v ≠ .ok i) ∧
    (s.phase = phaseIdle →
      hostWrite addrCmd v s = .next { s with err := true, errcode := if s.err then s.errcode else 2#4 }) ∧
    ∀ u, s.phase ≠ phaseIdle → engineStep s = .next u →
      hostWrite addrCmd v s = .next { u with err := true, errcode := if s.err then s.errcode else 1#4 }

/-- 60 R173: while busy, a write to WSET has no effect but BUSY, whatever its address and data (so for every command word), a write
elsewhere is ignored, and a read is allowed and raises nothing; the engine goes on the same in all of them. -/
def Obligations.WritesWhileBusyAreDropped : Prop :=
  (∀ a : Addr, inWset a = true ↔ a.toNat = 0x00 ∨ (0x02 ≤ a.toNat ∧ a.toNat ≤ 0x07) ∨ (0x20 ≤ a.toNat ∧ a.toNat ≤ 0x35)) ∧
  ∀ s u : State, s.phase ≠ phaseIdle → cycle idleIn s = .next u →
    (∀ a v, inWset a = true →
      cycle (writeIn a v) s = .next { u with err := true, errcode := if s.err then s.errcode else 1#4 }) ∧
    (∀ i, exec i s = .next { u with err := true, errcode := if s.err then s.errcode else 1#4 }) ∧
    (∀ a v, inWset a = false → cycle (writeIn a v) s = .next u) ∧
    ∀ a, ∃ w, cycle (readIn a) s = .next { u with rdata := some w }

/-- 60 R175: whichever of the three causes rejects a write, every register but ERR and ERRCODE is as a cycle without that write
leaves it. -/
def Obligations.ErrorsArePrecise : Prop :=
  ∀ (s u : State) (c : CycleIn), raisesError c s → cycle idleIn s = .next u →
    ∃ code : BitVec 4, (code = 1#4 ∨ code = 2#4 ∨ code = 3#4) ∧
      cycle c s = .next { u with err := true, errcode := if s.err then s.errcode else code }

/-! ## The engines, cycle by cycle and command by command (41, 42, 43, 70) -/

/-- 41 R117: the key-schedule cycle. -/
def Obligations.KeyScheduleCycle : Prop :=
  ∀ (s : State) (i : Fin 22) (j : Fin 3), s.phase = 1#2 → s.cnt.toNat = i.val → j.val = i.val % 3 →
    cycle idleIn s = .next { s with
      rk := s.rk.set i s.ksB
      rkv := s.rkv ||| BitVec.ofNat 22 (2 ^ i.val)
      ksA := s.ksA.set j (speckRound s.ksA[j] s.ksB (BitVec.ofNat 16 i.val)).1
      ksB := (speckRound s.ksA[j] s.ksB (BitVec.ofNat 16 i.val)).2
      phase := if i.val < 21 then 1#2 else if s.comb then 2#2 else 0#2
      cnt := if i.val < 21 then BitVec.ofNat 5 (i.val + 1) else 0#5 }

/-- 42 R134: the encryption cycle. -/
def Obligations.EncryptionCycle : Prop :=
  ∀ (s : State) (i : Fin 22), s.phase = 2#2 → s.cnt.toNat = i.val →
    (i.val < 21 → cycle idleIn s = .next { s with
      dpX := (speckRound s.dpX s.dpY s.rk[i]).1
      dpY := (speckRound s.dpX s.dpY s.rk[i]).2
      cnt := BitVec.ofNat 5 (i.val + 1) }) ∧
    (i.val = 21 → cycle idleIn s = .next { s with
      dpX := (speckRound s.dpX s.dpY s.rk[i]).1
      dpY := (speckRound s.dpX s.dpY s.rk[i]).2
      ctL := (speckRound s.dpX s.dpY s.rk[i]).1
      ctR := (speckRound s.dpX s.dpY s.rk[i]).2
      ctValid := true, phase := 0#2, cnt := 0#5, comb := false })

/-- 41 R118, R119 and R120: after an accepted EXPAND, whatever the host reads or (in vain) writes meanwhile, the core is in
key-schedule cycle n after n < 22 cycles, with the first n entries final and the loop variables in KS_A and KS_B, and after 22 it is
idle with the schedule of the key at acceptance complete and the loop variables after the last iteration in KS_A and KS_B.
KEY, PT, CT, CT_VALID, DP_X and DP_Y keep their values throughout. -/
def Obligations.ExpandBuildsTheSchedule : Prop :=
  ∀ (s u : State) (cs : List CycleIn), s.phase = phaseIdle → exec .expand s = .next u → noReset cs → cs.length ≤ 22 →
    ∃ t, runCycles cs u = .next t ∧
      (cs.length < 22 →
        t.phase = phaseKS ∧ t.cnt.toNat = cs.length ∧ t.comb = false ∧ t.rkv = lowMask cs.length ∧
        t.ksA = (keyProgress s cs.length).a ∧ t.ksB = (keyProgress s cs.length).b ∧
        ∀ i : Fin 22, i.val < cs.length →
          t.rk[i] = (keySchedule s)[i] ∧ readValue (rkAddr i) t = (keySchedule s)[i]) ∧
      (cs.length = 22 →
        t.phase = phaseIdle ∧ t.cnt = 0#5 ∧ t.comb = false ∧ t.rkv = 0x3FFFFF#22 ∧ schedValid t = true ∧
        t.rk = keySchedule s ∧ t.ksA = (keyProgress s 22).a ∧ t.ksB = (keyProgress s 22).b) ∧
      t.key0 = s.key0 ∧ t.key1 = s.key1 ∧ t.key2 = s.key2 ∧ t.key3 = s.key3 ∧ t.ptL = s.ptL ∧ t.ptR = s.ptR ∧
      t.ctL = s.ctL ∧ t.ctR = s.ctR ∧ t.ctValid = s.ctValid ∧ t.dpX = s.dpX ∧ t.dpY = s.dpY

/-- 42 R135 to R138: after an accepted ENCRYPT, whatever the host reads or (in vain) writes meanwhile, DP_X and DP_Y hold the
block after n rounds after n < 22 cycles while CT keeps the last result, and after 22 the core is idle with CT the encryption of PT
under RK as they were at acceptance. KEY, PT, RK, RKV, KS_A and KS_B keep their values throughout. -/
def Obligations.EncryptProducesTheCiphertext : Prop :=
  ∀ (s u : State) (cs : List CycleIn), s.phase = phaseIdle → s.rkv = 0x3FFFFF#22 → exec .encrypt s = .next u → noReset cs →
    cs.length ≤ 22 →
    ∃ t, runCycles cs u = .next t ∧
      (cs.length < 22 →
        t.phase = phaseENC ∧ t.cnt.toNat = cs.length ∧ t.comb = false ∧
        (t.dpX, t.dpY) = blockLoop s.rk s.ptL s.ptR cs.length ∧
        t.ctL = s.ctL ∧ t.ctR = s.ctR ∧ t.ctValid = false) ∧
      (cs.length = 22 →
        t.phase = phaseIdle ∧ t.cnt = 0#5 ∧ t.comb = false ∧ (t.ctL, t.ctR) = encryptFn s.ptL s.ptR s.rk ∧
        (t.dpX, t.dpY) = encryptFn s.ptL s.ptR s.rk ∧ t.ctValid = true) ∧
      t.key0 = s.key0 ∧ t.key1 = s.key1 ∧ t.key2 = s.key2 ∧ t.key3 = s.key3 ∧ t.ptL = s.ptL ∧ t.ptR = s.ptR ∧
      t.rk = s.rk ∧ t.rkv = s.rkv ∧ t.ksA = s.ksA ∧ t.ksB = s.ksB

/-- 43 R151 and R153 with the result of 43 section 1: after an accepted ENCRYPT_COMBINED the core is in the key-schedule phase for
22 cycles with the plaintext kept in DP_X and DP_Y, in the encryption phase for the next 22 with RK complete, and after 44 idle with CT
the encryption of PT under the schedule of KEY, and that schedule left in RK. -/
def Obligations.CombinedExpandsThenEncrypts : Prop :=
  ∀ (s u : State) (cs : List CycleIn), s.phase = phaseIdle → exec .encryptCombined s = .next u → noReset cs → cs.length ≤ 44 →
    ∃ t, runCycles cs u = .next t ∧
      (cs.length < 22 →
        t.phase = phaseKS ∧ t.cnt.toNat = cs.length ∧ t.comb = true ∧ t.ctValid = false ∧ schedValid t = false ∧
        t.dpX = s.ptL ∧ t.dpY = s.ptR ∧
        ∀ i : Fin 22, i.val < cs.length → t.rk[i] = (keySchedule s)[i]) ∧
      (22 ≤ cs.length → cs.length < 44 →
        t.phase = phaseENC ∧ t.cnt.toNat = cs.length - 22 ∧ t.comb = true ∧ t.ctValid = false ∧ schedValid t = true ∧
        t.rk = keySchedule s ∧ (t.dpX, t.dpY) = blockLoop (keySchedule s) s.ptL s.ptR (cs.length - 22)) ∧
      (cs.length = 44 →
        t.phase = phaseIdle ∧ t.cnt = 0#5 ∧ t.comb = false ∧ t.ctValid = true ∧ schedValid t = true ∧
        t.rk = keySchedule s ∧ (t.ctL, t.ctR) = encryptFn s.ptL s.ptR (keySchedule s)) ∧
      (cs.length < 44 → t.ctL = s.ctL ∧ t.ctR = s.ctR) ∧
      t.key0 = s.key0 ∧ t.key1 = s.key1 ∧ t.key2 = s.key2 ∧ t.key3 = s.key3 ∧ t.ptL = s.ptL ∧ t.ptR = s.ptR

/-- 43 R152: from every idle state, ENCRYPT_COMBINED with its 44 cycles ends in exactly the state that EXPAND with its 22 cycles
and then ENCRYPT with its 22 cycles end in, every register the same, with CT the encryption of PT under the schedule of KEY. -/
def Obligations.CombinedEqualsExpandThenEncrypt : Prop :=
  ∀ s : State, s.phase = phaseIdle →
    ∃ a b c d e : State,
      exec .expand s = .next a ∧ runCycles (List.replicate 22 idleIn) a = .next b ∧
      exec .encrypt b = .next c ∧ runCycles (List.replicate 22 idleIn) c = .next d ∧
      exec .encryptCombined s = .next e ∧ runCycles (List.replicate 44 idleIn) e = .next d ∧
      (d.ctL, d.ctR) = encryptFn s.ptL s.ptR (expandFn s.key0 s.key1 s.key2 s.key3) ∧
      d.rk = expandFn s.key0 s.key1 s.key2 s.key3

/-- 70 section 3 (Latencies) and 30 section 4: with `WAIT` right after the command in the host's program, the command's step and then
23 steps (EXPAND, ENCRYPT), 45 (ENCRYPT_COMBINED) or 1 (NOP, CLRERR) pass, one read of STATUS each, before the host goes on, and not
one fewer. -/
def Obligations.WaitTakesTheLatencyOfTheCommand : Prop :=
  ∀ (s : State) (i : Instr) (rest : List HostOp) (n : Nat), s.phase = phaseIdle →
    s.host = .cycle (writeIn addrCmd (encode i)) :: .wait :: rest →
    (i = .encrypt → schedValid s = true) →
    (n = match i with | .nop => 1 | .expand => 23 | .encrypt => 23 | .encryptCombined => 45 | .clrerr => 1) →
    (∀ m, m < n → ∃ t, Host.Core.run Sys2Proof.core (1 + m) s = .next t ∧ t.host = .wait :: rest) ∧
    ∃ t, Host.Core.run Sys2Proof.core (1 + n) s = .next t ∧ t.host = rest ∧ t.phase = phaseIdle

/-- 70 section 4 (The end of a run): in every state of the invariant the core is idle again within 44 cycles without reset, whatever
the host does. -/
def Obligations.EveryCommandEndsWithin44Cycles : Prop :=
  ∀ (s : State) (cs : List CycleIn), Inv s → noReset cs → cs.length = 44 →
    ∃ n t, n ≤ 44 ∧ runCycles (cs.take n) s = .next t ∧ t.phase = phaseIdle

/-! ## Invariants -/

/-- The invariant holds in the state after reset. -/
def Obligations.InvHoldsAtReset : Prop := Inv State.reset

/-- 10 R34, R35, R41, R42 and 41 R119 as an invariant: every step keeps it, whatever the host presents. -/
def Obligations.StepKeepsInv : Prop := ∀ s t : State, Inv s → step s = .next t → Inv t

/-- The agreement of a running command with the cipher functions holds in the state after reset (where none runs). -/
def Obligations.ProgressHoldsAtReset : Prop := Progress State.reset

/-- 41 section 2 (Agreement of engine and function) and 42 section 3, as an invariant: every step keeps the agreement of the running
command with the cipher functions. -/
def Obligations.StepKeepsProgress : Prop := ∀ s t : State, Inv s → Progress s → step s = .next t → Progress t

/-- 70 section 4 ("The core cannot hang"): from every state of the invariant every step answers a next state. -/
def Obligations.StepAnswersFromInv : Prop := ∀ s : State, Inv s → ∃ t, step s = .next t

/-- THE MODEL'S CHOICE (log 7, log 8; 93 U6 "refuse"): a step stops exactly in a cycle without reset that runs the engine in PHASE = 3,
or in an engine phase with CNT of 22 or more, and it says which. It never faults. -/
def Obligations.StepStopsOnlyOnReservedSequencerValues : Prop :=
  ∀ s : State,
    (step s = .refused .phaseReserved ↔ (hostInput s).rst = false ∧ s.phase = 3#2) ∧
    (step s = .refused .roundOutOfRange ↔
      (hostInput s).rst = false ∧ (s.phase = phaseKS ∨ s.phase = phaseENC) ∧ 22 ≤ s.cnt.toNat) ∧
    (∀ m, step s ≠ .refused (.notModelled m)) ∧ ∀ f, step s ≠ .fault f

/-! ## Which events change which register (10, 60) -/

/-- 10 R40: how PHASE changes in a step, from every state of the invariant. -/
def Obligations.PhaseChangesOnlyAsTheSequencerTableSays : Prop :=
  ∀ s t : State, Inv s → step s = .next t →
    ((hostInput s).rst = true → t.phase = phaseIdle) ∧
    ((hostInput s).rst = false →
      (s.phase = phaseKS → t.phase = if s.cnt = 21#5 then (if s.comb then phaseENC else phaseIdle) else phaseKS) ∧
      (s.phase = phaseENC → t.phase = if s.cnt = 21#5 then phaseIdle else phaseENC) ∧
      (s.phase = phaseIdle →
        (t.phase = phaseKS ↔
          hostInput s = writeIn addrCmd (encode .expand) ∨ hostInput s = writeIn addrCmd (encode .encryptCombined)) ∧
        (t.phase = phaseENC ↔ hostInput s = writeIn addrCmd (encode .encrypt) ∧ schedValid s = true)))

/-- 10 R41 and R42: how CNT and COMB change in a step, from every state of the invariant. -/
def Obligations.CntAndCombFollowTheRounds : Prop :=
  ∀ s t : State, Inv s → step s = .next t →
    t.cnt.toNat < 22 ∧ (t.phase = phaseIdle → t.cnt = 0#5 ∧ t.comb = false) ∧
    ((hostInput s).rst = true → t.cnt = 0#5 ∧ t.comb = false) ∧
    ((hostInput s).rst = false → s.phase ≠ phaseIdle →
      (s.cnt.toNat < 21 → t.cnt = s.cnt + 1#5 ∧ t.comb = s.comb) ∧
      (s.cnt.toNat = 21 → t.cnt = 0#5 ∧ (t.comb = true ↔ s.phase = phaseKS ∧ s.comb = true))) ∧
    ((hostInput s).rst = false → s.phase = phaseIdle →
      t.cnt = 0#5 ∧ (t.comb = true ↔ hostInput s = writeIn addrCmd (encode .encryptCombined)))

/-- 10 R28: how RKV changes in a step: by a reset, an accepted EXPAND or ENCRYPT_COMBINED, a key-schedule cycle or an accepted write
of an entry, and by nothing else; and how the host reads it. -/
def Obligations.RkvChangesOnlyByItsFourEvents : Prop :=
  (∀ s : State, readValue 0x0A#6 s = s.rkv.extractLsb' 0 16 ∧ readValue 0x0B#6 s = (s.rkv.extractLsb' 16 6).setWidth 16) ∧
  ∀ s t : State, step s = .next t →
    ((hostInput s).rst = true → t.rkv = 0#22) ∧
    ((hostInput s).rst = false →
      (s.phase = phaseKS → t.rkv = s.rkv ||| BitVec.ofNat 22 (2 ^ s.cnt.toNat)) ∧
      (s.phase = phaseENC → t.rkv = s.rkv) ∧
      (s.phase = phaseIdle →
        (hostInput s = writeIn addrCmd (encode .expand) ∨ hostInput s = writeIn addrCmd (encode .encryptCombined) →
          t.rkv = 0#22) ∧
        (∀ (i : Fin 22) v, hostInput s = writeIn (rkAddr i) v → t.rkv = s.rkv ||| BitVec.ofNat 22 (2 ^ i.val)) ∧
        (hostInput s ≠ writeIn addrCmd (encode .expand) → hostInput s ≠ writeIn addrCmd (encode .encryptCombined) →
          (∀ (i : Fin 22) v, hostInput s ≠ writeIn (rkAddr i) v) → t.rkv = s.rkv)))

/-- 10 R27 and 42 R136: an entry of RK changes only in the key-schedule cycle of its index, to KS_B, or by an accepted host write to
its address, to the word written; a reset changes none. -/
def Obligations.RkEntriesHaveTwoWriters : Prop :=
  ∀ (s t : State) (i : Fin 22), step s = .next t → t.rk[i] ≠ s.rk[i] →
    (hostInput s).rst = false ∧
    ((s.phase = phaseKS ∧ s.cnt.toNat = i.val ∧ t.rk[i] = s.ksB) ∨
      (s.phase = phaseIdle ∧ ∃ v, hostInput s = writeIn (rkAddr i) v ∧ t.rk[i] = v))

/-- 10 R25 and R26: CT changes only at the completion edge of an encryption (or to 0 by a reset), and how CT_VALID changes. -/
def Obligations.CtChangesOnlyAtCompletion : Prop :=
  ∀ s t : State, step s = .next t →
    ((hostInput s).rst = true → t.ctL = 0x0000#16 ∧ t.ctR = 0x0000#16 ∧ t.ctValid = false) ∧
    ((hostInput s).rst = false →
      (s.phase = phaseENC ∧ s.cnt = 21#5 → t.ctL = t.dpX ∧ t.ctR = t.dpY ∧ t.ctValid = true) ∧
      (¬(s.phase = phaseENC ∧ s.cnt = 21#5) →
        t.ctL = s.ctL ∧ t.ctR = s.ctR ∧
        t.ctValid = (if s.phase = phaseIdle ∧
          (hostInput s = writeIn addrCmd (encode .encryptCombined) ∨
            (hostInput s = writeIn addrCmd (encode .encrypt) ∧ schedValid s = true)) then false else s.ctValid)))

/-- 10 section 6 (Writers): the six key and plaintext registers change only by a reset, to 0, or by a host write to their own
address while idle, to the word written. -/
def Obligations.KeyAndPlaintextChangeOnlyByTheHost : Prop :=
  ∀ s t : State, step s = .next t → (hostInput s).rst = false →
    (t.key0 ≠ s.key0 → s.phase = phaseIdle ∧ hostInput s = writeIn 0x02#6 t.key0) ∧
    (t.key1 ≠ s.key1 → s.phase = phaseIdle ∧ hostInput s = writeIn 0x03#6 t.key1) ∧
    (t.key2 ≠ s.key2 → s.phase = phaseIdle ∧ hostInput s = writeIn 0x04#6 t.key2) ∧
    (t.key3 ≠ s.key3 → s.phase = phaseIdle ∧ hostInput s = writeIn 0x05#6 t.key3) ∧
    (t.ptL ≠ s.ptL → s.phase = phaseIdle ∧ hostInput s = writeIn 0x06#6 t.ptL) ∧
    (t.ptR ≠ s.ptR → s.phase = phaseIdle ∧ hostInput s = writeIn 0x07#6 t.ptR)

/-- 10 R33 and 60 R174: ERR is set by an error of 60 R171 and by nothing else, with its code recorded only when ERR = 0; it is cleared
by an accepted CLRERR and by a reset and by nothing else. -/
def Obligations.ErrIsStickyAndTheFirstErrorWins : Prop :=
  ∀ s t : State, step s = .next t →
    ((hostInput s).rst = true → t.err = false ∧ t.errcode = 0#4) ∧
    (clearsError (hostInput s) s → t.err = false ∧ t.errcode = 0#4) ∧
    (raisesError (hostInput s) s → t.err = true ∧ (s.err = true → t.errcode = s.errcode) ∧
      (s.err = false → t.errcode = 1#4 ∨ t.errcode = 2#4 ∨ t.errcode = 3#4)) ∧
    ((hostInput s).rst = false → ¬ clearsError (hostInput s) s → ¬ raisesError (hostInput s) s →
      t.err = s.err ∧ t.errcode = s.errcode)

/-- 70 section 4 (the host's duties) and section 2: a host that writes to WSET only while the core is idle never gets a BUSY error. -/
def Obligations.DutifulHostGetsNoBusyError : Prop :=
  ∀ s t : State, step s = .next t → hostDutiful s = true → s.err = false → s.errcode ≠ 1#4 → t.errcode ≠ 1#4

/-! ## The register space (10, 20) -/

/-- 10 R32 with R21 and R36: every field of STATUS at its bits, what reads and writes of it do, and its value after reset. -/
def Obligations.StatusLayout : Prop :=
  statusWord State.reset = 0x0000#16 ∧
  ∀ s : State, readValue 0x01#6 s = statusWord s ∧
    (∀ u v, cycle idleIn s = .next u → cycle (writeIn 0x01#6 v) s = .next u) ∧
    ((statusWord s).getLsbD 0 = true ↔ s.phase ≠ 0#2) ∧
    ((statusWord s).getLsbD 1 = true ↔ s.rkv = 0x3FFFFF#22) ∧
    (statusWord s).getLsbD 2 = s.ctValid ∧
    (statusWord s).getLsbD 3 = s.err ∧
    (statusWord s).extractLsb' 4 4 = s.errcode ∧
    (statusWord s).extractLsb' 8 2 = s.phase ∧
    (statusWord s).getLsbD 10 = s.comb ∧
    (statusWord s).extractLsb' 11 5 = s.cnt ∧
    statusWord s = s.cnt ++ BitVec.ofBool s.comb ++ s.phase ++ s.errcode ++ BitVec.ofBool s.err ++ BitVec.ofBool s.ctValid ++
      BitVec.ofBool (decide (s.rkv = 0x3FFFFF#22)) ++ BitVec.ofBool (decide (s.phase ≠ 0#2))

/-- 20 R52: what a bus read returns at each of the 64 addresses. -/
def Obligations.ReadMap : Prop :=
  ∀ s : State,
    readValue 0x01#6 s = statusWord s ∧
    readValue 0x02#6 s = s.key0 ∧ readValue 0x03#6 s = s.key1 ∧ readValue 0x04#6 s = s.key2 ∧ readValue 0x05#6 s = s.key3 ∧
    readValue 0x06#6 s = s.ptL ∧ readValue 0x07#6 s = s.ptR ∧ readValue 0x08#6 s = s.ctL ∧ readValue 0x09#6 s = s.ctR ∧
    (readValue 0x0A#6 s).toNat = s.rkv.toNat % 65536 ∧ (readValue 0x0B#6 s).toNat = s.rkv.toNat / 65536 ∧
    readValue 0x0E#6 s = 0x0016#16 ∧ readValue 0x0F#6 s = 0x2040#16 ∧
    (∀ (a : Addr) (i : Fin 22), a.toNat = 0x20 + i.val → readValue a s = if s.rkv.getLsbD i.val then s.rk[i] else 0x0000#16) ∧
    ∀ a : Addr, (a.toNat = 0 ∨ a.toNat = 0x0C ∨ a.toNat = 0x0D ∨ (0x10 ≤ a.toNat ∧ a.toNat ≤ 0x1F) ∨ 0x36 ≤ a.toNat) →
      readValue a s = 0x0000#16

/-- 20 R54: a read, at any address and busy or idle, leaves every register as a cycle without a transaction leaves it, it returns
the value before the edge, and with no engine step between them two reads of an address return the same value. -/
def Obligations.ReadsHaveNoSideEffects : Prop :=
  ∀ (s u : State) (a : Addr), cycle idleIn s = .next u →
    cycle (readIn a) s = .next { u with rdata := some (readValue a s) } ∧
    (s.phase = phaseIdle → ∀ b, readValue b { u with rdata := some (readValue a s) } = readValue b s)

/-- 20 section 2 (the host-write function) while idle: each key and plaintext address stores the word in its register and changes
nothing else, so a key write leaves RK, RKV and CT_VALID (10 section 7). -/
def Obligations.IdleWritesStoreKeyAndPlaintext : Prop :=
  ∀ (s : State) (v : Word), s.phase = phaseIdle →
    cycle (writeIn 0x02#6 v) s = .next { s with key0 := v } ∧
    cycle (writeIn 0x03#6 v) s = .next { s with key1 := v } ∧
    cycle (writeIn 0x04#6 v) s = .next { s with key2 := v } ∧
    cycle (writeIn 0x05#6 v) s = .next { s with key3 := v } ∧
    cycle (writeIn 0x06#6 v) s = .next { s with ptL := v } ∧
    cycle (writeIn 0x07#6 v) s = .next { s with ptR := v }

/-- 10 R30: a host write of a round-key entry while idle stores the word, marks the entry and has no other effect, so the entry then
reads back; while busy it raises BUSY and has no effect. -/
def Obligations.IdleWritesStoreRoundKeys : Prop :=
  ∀ (s : State) (i : Fin 22) (a : Addr) (v : Word), a.toNat = 0x20 + i.val →
    (s.phase = phaseIdle →
      cycle (writeIn a v) s = .next { s with rk := s.rk.set i v, rkv := s.rkv ||| BitVec.ofNat 22 (2 ^ i.val) } ∧
      readValue a { s with rk := s.rk.set i v, rkv := s.rkv ||| BitVec.ofNat 22 (2 ^ i.val) } = v) ∧
    ∀ u, s.phase ≠ phaseIdle → cycle idleIn s = .next u →
      cycle (writeIn a v) s = .next { u with err := true, errcode := if s.err then s.errcode else 1#4 }

/-- 20 R53: a write to a read-only or reserved address is ignored, busy or idle, and raises no error; a reserved address reads 0. -/
def Obligations.ReadOnlyAndReservedWritesAreIgnored : Prop :=
  ∀ (s u : State) (a : Addr) (v : Word), (a.toNat = 1 ∨ (0x08 ≤ a.toNat ∧ a.toNat ≤ 0x1F) ∨ 0x36 ≤ a.toNat) →
    cycle idleIn s = .next u →
    cycle (writeIn a v) s = .next u ∧
    ((a.toNat = 0x0C ∨ a.toNat = 0x0D ∨ (0x10 ≤ a.toNat ∧ a.toNat ≤ 0x1F) ∨ 0x36 ≤ a.toNat) → readValue a s = 0x0000#16)

/-- 20 R66: in a key-schedule cycle the host reads the entries below CNT as already written, with their final values, and zeros
for the rest. -/
def Obligations.PartialScheduleIsReadable : Prop :=
  ∀ (s : State) (j : Fin 22), Inv s → Progress s → s.phase = phaseKS →
    readValue (rkAddr j) s = if j.val < s.cnt.toNat then (keySchedule s)[j] else 0x0000#16

/-! ## Reset (70, 20) -/

/-- From 70 section 1 (ResetState) and 20 section 5: from EVERY state, PHASE = 3 included, a step whose cycle has rst = 1 gives the
registers their reset values and does nothing else: a write in it is discarded, a read in it returns some word, and RK and the working
registers are not written. THE MODEL'S CHOICE (log 3): in a cycle without a read there is no read data. -/
def Obligations.ResetWorksFromEveryState : Prop :=
  ∀ s : State, (hostInput s).rst = true → ∃ t, step s = .next t ∧
    t.key0 = 0x0000#16 ∧ t.key1 = 0x0000#16 ∧ t.key2 = 0x0000#16 ∧ t.key3 = 0x0000#16 ∧
    t.ptL = 0x0000#16 ∧ t.ptR = 0x0000#16 ∧ t.ctL = 0x0000#16 ∧ t.ctR = 0x0000#16 ∧ t.ctValid = false ∧ t.rkv = 0#22 ∧
    t.err = false ∧ t.errcode = 0#4 ∧ t.phase = 0#2 ∧ t.cnt = 0#5 ∧ t.comb = false ∧
    t.rk = s.rk ∧ t.ksB = s.ksB ∧ t.ksA = s.ksA ∧ t.dpX = s.dpX ∧ t.dpY = s.dpY ∧
    (t.rdata.isSome = true ↔ ∃ a, (hostInput s).txn = .read a)

/-- 10 R46: after a reset cycle from every state, and in the state after reset, STATUS reads 0, RKV_LO and RKV_HI read 0, every RK
address reads 0, ROUNDS reads 0x0016 and ID reads 0x2040, and KEY, PT and CT read 0. -/
def Obligations.ReadsAfterReset : Prop :=
  ∀ t : State, (t = State.reset ∨ ∃ s, (hostInput s).rst = true ∧ step s = .next t) →
    readValue 0x01#6 t = 0x0000#16 ∧ readValue 0x0E#6 t = 0x0016#16 ∧ readValue 0x0F#6 t = 0x2040#16 ∧
    ∀ a : Addr, a.toNat ≠ 0x0E → a.toNat ≠ 0x0F → readValue a t = 0x0000#16

/-- 70 R212: after a reset in any state, also one that aborts a command, RKV = 0 and ENCRYPT is refused with NO_SCHEDULE (code 3). -/
def Obligations.EncryptAfterResetIsRefused : Prop :=
  ∀ s t : State, (hostInput s).rst = true → step s = .next t →
    t.rkv = 0#22 ∧ exec .encrypt t = .next { t with err := true, errcode := 3#4 }

/-! ## Decoding, listing words and the step (30) -/

/-- A few command words written out from 30 R74 decode to their commands, and three reserved words to none. -/
def Obligations.AssignedWordsDecode : Prop :=
  decode 0b0000000000000000#16 = .ok .nop ∧ decode 0b0000000000000001#16 = .ok .expand ∧
  decode 0b0000000000000010#16 = .ok .encrypt ∧ decode 0b0000000000000011#16 = .ok .encryptCombined ∧
  decode 0b0000000000000100#16 = .ok .clrerr ∧ decode 0b0000000000000101#16 = .error .reservedOpcode ∧
  decode 0b0000000000010001#16 = .error .reservedField ∧ decode 0b1000000000000000#16 = .error .reservedField

/-- 30 R74 and R76: over all 2^16 words, Decode answers each command exactly for its word of 30 R74, which is the word the encoder
gives it, and ILLEGAL for a word exactly when its reserved field is not 0 or its opcode is 5 or more. -/
def Obligations.DecodeIsExactOnAllWords : Prop :=
  (∀ i : Instr, decode (encode i) = .ok i) ∧
  ∀ v : Word,
    (decode v = .ok .nop ↔ v = 0x0000#16) ∧ (decode v = .ok .expand ↔ v = 0x0001#16) ∧ (decode v = .ok .encrypt ↔ v = 0x0002#16) ∧
    (decode v = .ok .encryptCombined ↔ v = 0x0003#16) ∧ (decode v = .ok .clrerr ↔ v = 0x0004#16) ∧
    ((∃ e, decode v = .error e) ↔ v.toNat / 16 ≠ 0 ∨ 5 ≤ v.toNat % 16)

/-- From 30 section 1 (TXN24): the listing word. Every cycle that has one is read back from it whole, with every address and every data
word; every 24-bit word that spells a cycle is that cycle's; and the fields stand where the format says. THE MODEL'S CHOICE (log 11):
a word with a field not 0 where the format says 0 decodes to nothing, and a transaction under reset has no word. -/
def Obligations.Txn24WordsRoundTrip : Prop :=
  (∀ (c : CycleIn) (w : BitVec 24), encodeTxn24 c = some w ↔ decodeTxn24 w = some c) ∧
  (∀ c : CycleIn, encodeTxn24 c = none ↔ c.rst = true ∧ c.txn ≠ .noTxn) ∧
  (∀ a : Addr, encodeTxn24 (readIn a) = some (BitVec.ofNat 24 (0x400000 + a.toNat * 0x10000))) ∧
  (∀ (a : Addr) (v : Word), encodeTxn24 (writeIn a v) = some (BitVec.ofNat 24 (0x800000 + a.toNat * 0x10000 + v.toNat))) ∧
  encodeTxn24 idleIn = some 0x000000#24 ∧ encodeTxn24 rstIn = some 0xC00000#24

/-- From 20 section 2 (Cycle semantics) and 60 section 1 (Command acceptance): when the host's next operation writes a word that decodes
to a command, a step is that command's meaning. THE MODEL'S CHOICE: the operation is the next of a list in State (log 1, log 12) and
is taken from it, the step is the whole cycle of the write (log 9), and a cycle without a read has no read data (log 3). -/
def Obligations.StepRunsTheDecodedCommand : Prop :=
  ∀ (s : State) (v : Word) (i : Instr) (rest : List HostOp),
    s.host = .cycle (writeIn addrCmd v) :: rest → decode v = .ok i →
    step s = exec i { s with host := rest, rdata := none }

/-! ## What cannot be seen, and what cannot matter (10, 70) -/

/-- 10 R47: two states that differ only in entries with RKV = 0 and in working registers that no running command uses read alike at
every address, and step alike into two such states, whatever the host does; so those contents are never observable. -/
def Obligations.HiddenContentsAreUnobservable : Prop :=
  ∀ s t : State, SameVisible s t →
    (∀ a, readValue a s = readValue a t) ∧
    ∀ s', Inv s → step s = .next s' → ∃ t', step t = .next t' ∧ SameVisible s' t'

/-- 70 R214: two states that differ in any key, plaintext, ciphertext or schedule words, with hosts that go on alike but for the data they
write, step into two such states, so their STATUS words are equal for ever, and reads of STATUS return the same. -/
def Obligations.StatusIsIndependentOfData : Prop :=
  ∀ s t : State, SameControl s t →
    statusWord s = statusWord t ∧
    ∀ s', step s = .next s' → ∃ t', step t = .next t' ∧ SameControl s' t' ∧
      (s'.rdata.isSome = t'.rdata.isSome) ∧ (hostInput s = readIn addrStatus → s'.rdata = t'.rdata)
end

