-- ==== Sys2Proof/Laws/Decode.lean ====
section
/-! SUPPORT. What the decoder answers on the five assigned words, and only on them (30 R74 to R76). -/

namespace Sys2Proof

@[simp] theorem encode_nop : encode .nop = 0x0000#16 := rfl
@[simp] theorem encode_expand : encode .expand = 0x0001#16 := rfl
@[simp] theorem encode_encrypt : encode .encrypt = 0x0002#16 := rfl
@[simp] theorem encode_encryptCombined : encode .encryptCombined = 0x0003#16 := rfl
@[simp] theorem encode_clrerr : encode .clrerr = 0x0004#16 := rfl

/-- The opcode map read forwards and backwards (30 R74). -/
theorem opcodeCommand_eq_some {op : BitVec 4} {i : Instr} : opcodeCommand op = some i ↔ op = opcode i := by
  unfold opcodeCommand
  constructor
  · intro h
    split at h <;> [skip; split at h <;> [skip; split at h <;> [skip; split at h <;> [skip; split at h]]]]
    all_goals cases h
    all_goals assumption
  · rintro rfl
    cases i <;> rfl

end Sys2Proof
end

