-- ==== Sys2Proof/Laws/State.lean ====
section
/-! SUPPORT. One lemma per field for each named update of the state, so that no later proof unfolds a record update. -/

namespace Sys2Proof.Machine

variable (s : State)

@[simp] theorem raiseError_key0 (c : ErrCause) : (raiseError c s).key0 = s.key0 := rfl
@[simp] theorem raiseError_key1 (c : ErrCause) : (raiseError c s).key1 = s.key1 := rfl
@[simp] theorem raiseError_key2 (c : ErrCause) : (raiseError c s).key2 = s.key2 := rfl
@[simp] theorem raiseError_key3 (c : ErrCause) : (raiseError c s).key3 = s.key3 := rfl
@[simp] theorem raiseError_ptL (c : ErrCause) : (raiseError c s).ptL = s.ptL := rfl
@[simp] theorem raiseError_ptR (c : ErrCause) : (raiseError c s).ptR = s.ptR := rfl
@[simp] theorem raiseError_ctL (c : ErrCause) : (raiseError c s).ctL = s.ctL := rfl
@[simp] theorem raiseError_ctR (c : ErrCause) : (raiseError c s).ctR = s.ctR := rfl
@[simp] theorem raiseError_ctValid (c : ErrCause) : (raiseError c s).ctValid = s.ctValid := rfl
@[simp] theorem raiseError_rk (c : ErrCause) : (raiseError c s).rk = s.rk := rfl
@[simp] theorem raiseError_rkv (c : ErrCause) : (raiseError c s).rkv = s.rkv := rfl
@[simp] theorem raiseError_err (c : ErrCause) : (raiseError c s).err = true := rfl
@[simp] theorem raiseError_errcode (c : ErrCause) : (raiseError c s).errcode = if s.err then s.errcode else c.code := rfl
@[simp] theorem raiseError_phase (c : ErrCause) : (raiseError c s).phase = s.phase := rfl
@[simp] theorem raiseError_cnt (c : ErrCause) : (raiseError c s).cnt = s.cnt := rfl
@[simp] theorem raiseError_comb (c : ErrCause) : (raiseError c s).comb = s.comb := rfl
@[simp] theorem raiseError_ksB (c : ErrCause) : (raiseError c s).ksB = s.ksB := rfl
@[simp] theorem raiseError_ksA (c : ErrCause) : (raiseError c s).ksA = s.ksA := rfl
@[simp] theorem raiseError_dpX (c : ErrCause) : (raiseError c s).dpX = s.dpX := rfl
@[simp] theorem raiseError_dpY (c : ErrCause) : (raiseError c s).dpY = s.dpY := rfl
@[simp] theorem raiseError_rdata (c : ErrCause) : (raiseError c s).rdata = s.rdata := rfl
@[simp] theorem raiseError_draws (c : ErrCause) : (raiseError c s).draws = s.draws := rfl
@[simp] theorem raiseError_host (c : ErrCause) : (raiseError c s).host = s.host := rfl

@[simp] theorem clearError_key0 : (clearError s).key0 = s.key0 := rfl
@[simp] theorem clearError_key1 : (clearError s).key1 = s.key1 := rfl
@[simp] theorem clearError_key2 : (clearError s).key2 = s.key2 := rfl
@[simp] theorem clearError_key3 : (clearError s).key3 = s.key3 := rfl
@[simp] theorem clearError_ptL : (clearError s).ptL = s.ptL := rfl
@[simp] theorem clearError_ptR : (clearError s).ptR = s.ptR := rfl
@[simp] theorem clearError_ctL : (clearError s).ctL = s.ctL := rfl
@[simp] theorem clearError_ctR : (clearError s).ctR = s.ctR := rfl
@[simp] theorem clearError_ctValid : (clearError s).ctValid = s.ctValid := rfl
@[simp] theorem clearError_rk : (clearError s).rk = s.rk := rfl
@[simp] theorem clearError_rkv : (clearError s).rkv = s.rkv := rfl
@[simp] theorem clearError_err : (clearError s).err = false := rfl
@[simp] theorem clearError_errcode : (clearError s).errcode = 0#4 := rfl
@[simp] theorem clearError_phase : (clearError s).phase = s.phase := rfl
@[simp] theorem clearError_cnt : (clearError s).cnt = s.cnt := rfl
@[simp] theorem clearError_comb : (clearError s).comb = s.comb := rfl
@[simp] theorem clearError_ksB : (clearError s).ksB = s.ksB := rfl
@[simp] theorem clearError_ksA : (clearError s).ksA = s.ksA := rfl
@[simp] theorem clearError_dpX : (clearError s).dpX = s.dpX := rfl
@[simp] theorem clearError_dpY : (clearError s).dpY = s.dpY := rfl
@[simp] theorem clearError_rdata : (clearError s).rdata = s.rdata := rfl
@[simp] theorem clearError_draws : (clearError s).draws = s.draws := rfl
@[simp] theorem clearError_host : (clearError s).host = s.host := rfl

@[simp] theorem writeRk_key0 (i : Fin 22) (v : Word) : (writeRk i v s).key0 = s.key0 := rfl
@[simp] theorem writeRk_key1 (i : Fin 22) (v : Word) : (writeRk i v s).key1 = s.key1 := rfl
@[simp] theorem writeRk_key2 (i : Fin 22) (v : Word) : (writeRk i v s).key2 = s.key2 := rfl
@[simp] theorem writeRk_key3 (i : Fin 22) (v : Word) : (writeRk i v s).key3 = s.key3 := rfl
@[simp] theorem writeRk_ptL (i : Fin 22) (v : Word) : (writeRk i v s).ptL = s.ptL := rfl
@[simp] theorem writeRk_ptR (i : Fin 22) (v : Word) : (writeRk i v s).ptR = s.ptR := rfl
@[simp] theorem writeRk_ctL (i : Fin 22) (v : Word) : (writeRk i v s).ctL = s.ctL := rfl
@[simp] theorem writeRk_ctR (i : Fin 22) (v : Word) : (writeRk i v s).ctR = s.ctR := rfl
@[simp] theorem writeRk_ctValid (i : Fin 22) (v : Word) : (writeRk i v s).ctValid = s.ctValid := rfl
@[simp] theorem writeRk_rk (i : Fin 22) (v : Word) : (writeRk i v s).rk = s.rk.set i v := rfl
@[simp] theorem writeRk_rkv (i : Fin 22) (v : Word) : (writeRk i v s).rkv = setRkv i s.rkv := rfl
@[simp] theorem writeRk_err (i : Fin 22) (v : Word) : (writeRk i v s).err = s.err := rfl
@[simp] theorem writeRk_errcode (i : Fin 22) (v : Word) : (writeRk i v s).errcode = s.errcode := rfl
@[simp] theorem writeRk_phase (i : Fin 22) (v : Word) : (writeRk i v s).phase = s.phase := rfl
@[simp] theorem writeRk_cnt (i : Fin 22) (v : Word) : (writeRk i v s).cnt = s.cnt := rfl
@[simp] theorem writeRk_comb (i : Fin 22) (v : Word) : (writeRk i v s).comb = s.comb := rfl
@[simp] theorem writeRk_ksB (i : Fin 22) (v : Word) : (writeRk i v s).ksB = s.ksB := rfl
@[simp] theorem writeRk_ksA (i : Fin 22) (v : Word) : (writeRk i v s).ksA = s.ksA := rfl
@[simp] theorem writeRk_dpX (i : Fin 22) (v : Word) : (writeRk i v s).dpX = s.dpX := rfl
@[simp] theorem writeRk_dpY (i : Fin 22) (v : Word) : (writeRk i v s).dpY = s.dpY := rfl
@[simp] theorem writeRk_rdata (i : Fin 22) (v : Word) : (writeRk i v s).rdata = s.rdata := rfl
@[simp] theorem writeRk_draws (i : Fin 22) (v : Word) : (writeRk i v s).draws = s.draws := rfl
@[simp] theorem writeRk_host (i : Fin 22) (v : Word) : (writeRk i v s).host = s.host := rfl

@[simp] theorem loadKeyEngine_key0 : (loadKeyEngine s).key0 = s.key0 := rfl
@[simp] theorem loadKeyEngine_key1 : (loadKeyEngine s).key1 = s.key1 := rfl
@[simp] theorem loadKeyEngine_key2 : (loadKeyEngine s).key2 = s.key2 := rfl
@[simp] theorem loadKeyEngine_key3 : (loadKeyEngine s).key3 = s.key3 := rfl
@[simp] theorem loadKeyEngine_ptL : (loadKeyEngine s).ptL = s.ptL := rfl
@[simp] theorem loadKeyEngine_ptR : (loadKeyEngine s).ptR = s.ptR := rfl
@[simp] theorem loadKeyEngine_ctL : (loadKeyEngine s).ctL = s.ctL := rfl
@[simp] theorem loadKeyEngine_ctR : (loadKeyEngine s).ctR = s.ctR := rfl
@[simp] theorem loadKeyEngine_ctValid : (loadKeyEngine s).ctValid = s.ctValid := rfl
@[simp] theorem loadKeyEngine_rk : (loadKeyEngine s).rk = s.rk := rfl
@[simp] theorem loadKeyEngine_rkv : (loadKeyEngine s).rkv = 0#22 := rfl
@[simp] theorem loadKeyEngine_err : (loadKeyEngine s).err = s.err := rfl
@[simp] theorem loadKeyEngine_errcode : (loadKeyEngine s).errcode = s.errcode := rfl
@[simp] theorem loadKeyEngine_phase : (loadKeyEngine s).phase = s.phase := rfl
@[simp] theorem loadKeyEngine_cnt : (loadKeyEngine s).cnt = s.cnt := rfl
@[simp] theorem loadKeyEngine_comb : (loadKeyEngine s).comb = s.comb := rfl
@[simp] theorem loadKeyEngine_ksB : (loadKeyEngine s).ksB = s.key0 := rfl
@[simp] theorem loadKeyEngine_ksA : (loadKeyEngine s).ksA = #v[s.key1, s.key2, s.key3] := rfl
@[simp] theorem loadKeyEngine_dpX : (loadKeyEngine s).dpX = s.dpX := rfl
@[simp] theorem loadKeyEngine_dpY : (loadKeyEngine s).dpY = s.dpY := rfl
@[simp] theorem loadKeyEngine_rdata : (loadKeyEngine s).rdata = s.rdata := rfl
@[simp] theorem loadKeyEngine_draws : (loadKeyEngine s).draws = s.draws := rfl
@[simp] theorem loadKeyEngine_host : (loadKeyEngine s).host = s.host := rfl

@[simp] theorem loadBlock_key0 : (loadBlock s).key0 = s.key0 := rfl
@[simp] theorem loadBlock_key1 : (loadBlock s).key1 = s.key1 := rfl
@[simp] theorem loadBlock_key2 : (loadBlock s).key2 = s.key2 := rfl
@[simp] theorem loadBlock_key3 : (loadBlock s).key3 = s.key3 := rfl
@[simp] theorem loadBlock_ptL : (loadBlock s).ptL = s.ptL := rfl
@[simp] theorem loadBlock_ptR : (loadBlock s).ptR = s.ptR := rfl
@[simp] theorem loadBlock_ctL : (loadBlock s).ctL = s.ctL := rfl
@[simp] theorem loadBlock_ctR : (loadBlock s).ctR = s.ctR := rfl
@[simp] theorem loadBlock_ctValid : (loadBlock s).ctValid = false := rfl
@[simp] theorem loadBlock_rk : (loadBlock s).rk = s.rk := rfl
@[simp] theorem loadBlock_rkv : (loadBlock s).rkv = s.rkv := rfl
@[simp] theorem loadBlock_err : (loadBlock s).err = s.err := rfl
@[simp] theorem loadBlock_errcode : (loadBlock s).errcode = s.errcode := rfl
@[simp] theorem loadBlock_phase : (loadBlock s).phase = s.phase := rfl
@[simp] theorem loadBlock_cnt : (loadBlock s).cnt = s.cnt := rfl
@[simp] theorem loadBlock_comb : (loadBlock s).comb = s.comb := rfl
@[simp] theorem loadBlock_ksB : (loadBlock s).ksB = s.ksB := rfl
@[simp] theorem loadBlock_ksA : (loadBlock s).ksA = s.ksA := rfl
@[simp] theorem loadBlock_dpX : (loadBlock s).dpX = s.ptL := rfl
@[simp] theorem loadBlock_dpY : (loadBlock s).dpY = s.ptR := rfl
@[simp] theorem loadBlock_rdata : (loadBlock s).rdata = s.rdata := rfl
@[simp] theorem loadBlock_draws : (loadBlock s).draws = s.draws := rfl
@[simp] theorem loadBlock_host : (loadBlock s).host = s.host := rfl

@[simp] theorem startPhase_key0 (p : BitVec 2) (c : Bool) : (startPhase p c s).key0 = s.key0 := rfl
@[simp] theorem startPhase_key1 (p : BitVec 2) (c : Bool) : (startPhase p c s).key1 = s.key1 := rfl
@[simp] theorem startPhase_key2 (p : BitVec 2) (c : Bool) : (startPhase p c s).key2 = s.key2 := rfl
@[simp] theorem startPhase_key3 (p : BitVec 2) (c : Bool) : (startPhase p c s).key3 = s.key3 := rfl
@[simp] theorem startPhase_ptL (p : BitVec 2) (c : Bool) : (startPhase p c s).ptL = s.ptL := rfl
@[simp] theorem startPhase_ptR (p : BitVec 2) (c : Bool) : (startPhase p c s).ptR = s.ptR := rfl
@[simp] theorem startPhase_ctL (p : BitVec 2) (c : Bool) : (startPhase p c s).ctL = s.ctL := rfl
@[simp] theorem startPhase_ctR (p : BitVec 2) (c : Bool) : (startPhase p c s).ctR = s.ctR := rfl
@[simp] theorem startPhase_ctValid (p : BitVec 2) (c : Bool) : (startPhase p c s).ctValid = s.ctValid := rfl
@[simp] theorem startPhase_rk (p : BitVec 2) (c : Bool) : (startPhase p c s).rk = s.rk := rfl
@[simp] theorem startPhase_rkv (p : BitVec 2) (c : Bool) : (startPhase p c s).rkv = s.rkv := rfl
@[simp] theorem startPhase_err (p : BitVec 2) (c : Bool) : (startPhase p c s).err = s.err := rfl
@[simp] theorem startPhase_errcode (p : BitVec 2) (c : Bool) : (startPhase p c s).errcode = s.errcode := rfl
@[simp] theorem startPhase_phase (p : BitVec 2) (c : Bool) : (startPhase p c s).phase = p := rfl
@[simp] theorem startPhase_cnt (p : BitVec 2) (c : Bool) : (startPhase p c s).cnt = 0#5 := rfl
@[simp] theorem startPhase_comb (p : BitVec 2) (c : Bool) : (startPhase p c s).comb = c := rfl
@[simp] theorem startPhase_ksB (p : BitVec 2) (c : Bool) : (startPhase p c s).ksB = s.ksB := rfl
@[simp] theorem startPhase_ksA (p : BitVec 2) (c : Bool) : (startPhase p c s).ksA = s.ksA := rfl
@[simp] theorem startPhase_dpX (p : BitVec 2) (c : Bool) : (startPhase p c s).dpX = s.dpX := rfl
@[simp] theorem startPhase_dpY (p : BitVec 2) (c : Bool) : (startPhase p c s).dpY = s.dpY := rfl
@[simp] theorem startPhase_rdata (p : BitVec 2) (c : Bool) : (startPhase p c s).rdata = s.rdata := rfl
@[simp] theorem startPhase_draws (p : BitVec 2) (c : Bool) : (startPhase p c s).draws = s.draws := rfl
@[simp] theorem startPhase_host (p : BitVec 2) (c : Bool) : (startPhase p c s).host = s.host := rfl

@[simp] theorem resetRegisters_key0 : (resetRegisters s).key0 = 0x0000#16 := rfl
@[simp] theorem resetRegisters_key1 : (resetRegisters s).key1 = 0x0000#16 := rfl
@[simp] theorem resetRegisters_key2 : (resetRegisters s).key2 = 0x0000#16 := rfl
@[simp] theorem resetRegisters_key3 : (resetRegisters s).key3 = 0x0000#16 := rfl
@[simp] theorem resetRegisters_ptL : (resetRegisters s).ptL = 0x0000#16 := rfl
@[simp] theorem resetRegisters_ptR : (resetRegisters s).ptR = 0x0000#16 := rfl
@[simp] theorem resetRegisters_ctL : (resetRegisters s).ctL = 0x0000#16 := rfl
@[simp] theorem resetRegisters_ctR : (resetRegisters s).ctR = 0x0000#16 := rfl
@[simp] theorem resetRegisters_ctValid : (resetRegisters s).ctValid = false := rfl
@[simp] theorem resetRegisters_rk : (resetRegisters s).rk = s.rk := rfl
@[simp] theorem resetRegisters_rkv : (resetRegisters s).rkv = 0#22 := rfl
@[simp] theorem resetRegisters_err : (resetRegisters s).err = false := rfl
@[simp] theorem resetRegisters_errcode : (resetRegisters s).errcode = 0#4 := rfl
@[simp] theorem resetRegisters_phase : (resetRegisters s).phase = phaseIdle := rfl
@[simp] theorem resetRegisters_cnt : (resetRegisters s).cnt = 0#5 := rfl
@[simp] theorem resetRegisters_comb : (resetRegisters s).comb = false := rfl
@[simp] theorem resetRegisters_ksB : (resetRegisters s).ksB = s.ksB := rfl
@[simp] theorem resetRegisters_ksA : (resetRegisters s).ksA = s.ksA := rfl
@[simp] theorem resetRegisters_dpX : (resetRegisters s).dpX = s.dpX := rfl
@[simp] theorem resetRegisters_dpY : (resetRegisters s).dpY = s.dpY := rfl
@[simp] theorem resetRegisters_rdata : (resetRegisters s).rdata = s.rdata := rfl
@[simp] theorem resetRegisters_draws : (resetRegisters s).draws = s.draws := rfl
@[simp] theorem resetRegisters_host : (resetRegisters s).host = s.host := rfl

@[simp] theorem returnRead_key0 (v : Word) : (returnRead v s).key0 = s.key0 := rfl
@[simp] theorem returnRead_key1 (v : Word) : (returnRead v s).key1 = s.key1 := rfl
@[simp] theorem returnRead_key2 (v : Word) : (returnRead v s).key2 = s.key2 := rfl
@[simp] theorem returnRead_key3 (v : Word) : (returnRead v s).key3 = s.key3 := rfl
@[simp] theorem returnRead_ptL (v : Word) : (returnRead v s).ptL = s.ptL := rfl
@[simp] theorem returnRead_ptR (v : Word) : (returnRead v s).ptR = s.ptR := rfl
@[simp] theorem returnRead_ctL (v : Word) : (returnRead v s).ctL = s.ctL := rfl
@[simp] theorem returnRead_ctR (v : Word) : (returnRead v s).ctR = s.ctR := rfl
@[simp] theorem returnRead_ctValid (v : Word) : (returnRead v s).ctValid = s.ctValid := rfl
@[simp] theorem returnRead_rk (v : Word) : (returnRead v s).rk = s.rk := rfl
@[simp] theorem returnRead_rkv (v : Word) : (returnRead v s).rkv = s.rkv := rfl
@[simp] theorem returnRead_err (v : Word) : (returnRead v s).err = s.err := rfl
@[simp] theorem returnRead_errcode (v : Word) : (returnRead v s).errcode = s.errcode := rfl
@[simp] theorem returnRead_phase (v : Word) : (returnRead v s).phase = s.phase := rfl
@[simp] theorem returnRead_cnt (v : Word) : (returnRead v s).cnt = s.cnt := rfl
@[simp] theorem returnRead_comb (v : Word) : (returnRead v s).comb = s.comb := rfl
@[simp] theorem returnRead_ksB (v : Word) : (returnRead v s).ksB = s.ksB := rfl
@[simp] theorem returnRead_ksA (v : Word) : (returnRead v s).ksA = s.ksA := rfl
@[simp] theorem returnRead_dpX (v : Word) : (returnRead v s).dpX = s.dpX := rfl
@[simp] theorem returnRead_dpY (v : Word) : (returnRead v s).dpY = s.dpY := rfl
@[simp] theorem returnRead_rdata (v : Word) : (returnRead v s).rdata = some v := rfl
@[simp] theorem returnRead_draws (v : Word) : (returnRead v s).draws = s.draws := rfl
@[simp] theorem returnRead_host (v : Word) : (returnRead v s).host = s.host := rfl

@[simp] theorem returnFreeRead_key0 : (returnFreeRead s).key0 = s.key0 := rfl
@[simp] theorem returnFreeRead_key1 : (returnFreeRead s).key1 = s.key1 := rfl
@[simp] theorem returnFreeRead_key2 : (returnFreeRead s).key2 = s.key2 := rfl
@[simp] theorem returnFreeRead_key3 : (returnFreeRead s).key3 = s.key3 := rfl
@[simp] theorem returnFreeRead_ptL : (returnFreeRead s).ptL = s.ptL := rfl
@[simp] theorem returnFreeRead_ptR : (returnFreeRead s).ptR = s.ptR := rfl
@[simp] theorem returnFreeRead_ctL : (returnFreeRead s).ctL = s.ctL := rfl
@[simp] theorem returnFreeRead_ctR : (returnFreeRead s).ctR = s.ctR := rfl
@[simp] theorem returnFreeRead_ctValid : (returnFreeRead s).ctValid = s.ctValid := rfl
@[simp] theorem returnFreeRead_rk : (returnFreeRead s).rk = s.rk := rfl
@[simp] theorem returnFreeRead_rkv : (returnFreeRead s).rkv = s.rkv := rfl
@[simp] theorem returnFreeRead_err : (returnFreeRead s).err = s.err := rfl
@[simp] theorem returnFreeRead_errcode : (returnFreeRead s).errcode = s.errcode := rfl
@[simp] theorem returnFreeRead_phase : (returnFreeRead s).phase = s.phase := rfl
@[simp] theorem returnFreeRead_cnt : (returnFreeRead s).cnt = s.cnt := rfl
@[simp] theorem returnFreeRead_comb : (returnFreeRead s).comb = s.comb := rfl
@[simp] theorem returnFreeRead_ksB : (returnFreeRead s).ksB = s.ksB := rfl
@[simp] theorem returnFreeRead_ksA : (returnFreeRead s).ksA = s.ksA := rfl
@[simp] theorem returnFreeRead_dpX : (returnFreeRead s).dpX = s.dpX := rfl
@[simp] theorem returnFreeRead_dpY : (returnFreeRead s).dpY = s.dpY := rfl
@[simp] theorem returnFreeRead_rdata : (returnFreeRead s).rdata = some (Config.resetReadData s.draws) := rfl
@[simp] theorem returnFreeRead_draws : (returnFreeRead s).draws = s.draws + 1 := rfl
@[simp] theorem returnFreeRead_host : (returnFreeRead s).host = s.host := rfl

@[simp] theorem nextCycle_key0 (h : List HostOp) : (nextCycle h s).key0 = s.key0 := rfl
@[simp] theorem nextCycle_key1 (h : List HostOp) : (nextCycle h s).key1 = s.key1 := rfl
@[simp] theorem nextCycle_key2 (h : List HostOp) : (nextCycle h s).key2 = s.key2 := rfl
@[simp] theorem nextCycle_key3 (h : List HostOp) : (nextCycle h s).key3 = s.key3 := rfl
@[simp] theorem nextCycle_ptL (h : List HostOp) : (nextCycle h s).ptL = s.ptL := rfl
@[simp] theorem nextCycle_ptR (h : List HostOp) : (nextCycle h s).ptR = s.ptR := rfl
@[simp] theorem nextCycle_ctL (h : List HostOp) : (nextCycle h s).ctL = s.ctL := rfl
@[simp] theorem nextCycle_ctR (h : List HostOp) : (nextCycle h s).ctR = s.ctR := rfl
@[simp] theorem nextCycle_ctValid (h : List HostOp) : (nextCycle h s).ctValid = s.ctValid := rfl
@[simp] theorem nextCycle_rk (h : List HostOp) : (nextCycle h s).rk = s.rk := rfl
@[simp] theorem nextCycle_rkv (h : List HostOp) : (nextCycle h s).rkv = s.rkv := rfl
@[simp] theorem nextCycle_err (h : List HostOp) : (nextCycle h s).err = s.err := rfl
@[simp] theorem nextCycle_errcode (h : List HostOp) : (nextCycle h s).errcode = s.errcode := rfl
@[simp] theorem nextCycle_phase (h : List HostOp) : (nextCycle h s).phase = s.phase := rfl
@[simp] theorem nextCycle_cnt (h : List HostOp) : (nextCycle h s).cnt = s.cnt := rfl
@[simp] theorem nextCycle_comb (h : List HostOp) : (nextCycle h s).comb = s.comb := rfl
@[simp] theorem nextCycle_ksB (h : List HostOp) : (nextCycle h s).ksB = s.ksB := rfl
@[simp] theorem nextCycle_ksA (h : List HostOp) : (nextCycle h s).ksA = s.ksA := rfl
@[simp] theorem nextCycle_dpX (h : List HostOp) : (nextCycle h s).dpX = s.dpX := rfl
@[simp] theorem nextCycle_dpY (h : List HostOp) : (nextCycle h s).dpY = s.dpY := rfl
@[simp] theorem nextCycle_rdata (h : List HostOp) : (nextCycle h s).rdata = none := rfl
@[simp] theorem nextCycle_draws (h : List HostOp) : (nextCycle h s).draws = s.draws := rfl
@[simp] theorem nextCycle_host (h : List HostOp) : (nextCycle h s).host = h := rfl

@[simp] theorem ksCycle_key0 (i : Fin 22) : (ksCycle i s).key0 = s.key0 := rfl
@[simp] theorem ksCycle_key1 (i : Fin 22) : (ksCycle i s).key1 = s.key1 := rfl
@[simp] theorem ksCycle_key2 (i : Fin 22) : (ksCycle i s).key2 = s.key2 := rfl
@[simp] theorem ksCycle_key3 (i : Fin 22) : (ksCycle i s).key3 = s.key3 := rfl
@[simp] theorem ksCycle_ptL (i : Fin 22) : (ksCycle i s).ptL = s.ptL := rfl
@[simp] theorem ksCycle_ptR (i : Fin 22) : (ksCycle i s).ptR = s.ptR := rfl
@[simp] theorem ksCycle_ctL (i : Fin 22) : (ksCycle i s).ctL = s.ctL := rfl
@[simp] theorem ksCycle_ctR (i : Fin 22) : (ksCycle i s).ctR = s.ctR := rfl
@[simp] theorem ksCycle_ctValid (i : Fin 22) : (ksCycle i s).ctValid = s.ctValid := rfl
@[simp] theorem ksCycle_rk (i : Fin 22) : (ksCycle i s).rk = s.rk.set i s.ksB := rfl
@[simp] theorem ksCycle_rkv (i : Fin 22) : (ksCycle i s).rkv = setRkv i s.rkv := rfl
@[simp] theorem ksCycle_err (i : Fin 22) : (ksCycle i s).err = s.err := rfl
@[simp] theorem ksCycle_errcode (i : Fin 22) : (ksCycle i s).errcode = s.errcode := rfl
@[simp] theorem ksCycle_phase (i : Fin 22) : (ksCycle i s).phase = if i.val = 21 then (if s.comb then phaseENC else phaseIdle) else s.phase := rfl
@[simp] theorem ksCycle_cnt (i : Fin 22) : (ksCycle i s).cnt = if i.val = 21 then 0#5 else s.cnt + 1#5 := rfl
@[simp] theorem ksCycle_comb (i : Fin 22) : (ksCycle i s).comb = s.comb := rfl
@[simp] theorem ksCycle_ksB (i : Fin 22) : (ksCycle i s).ksB = (speckRound s.ksA[Fin.ofNat 3 i.val] s.ksB (s.cnt.setWidth 16)).2 := rfl
@[simp] theorem ksCycle_ksA (i : Fin 22) : (ksCycle i s).ksA = s.ksA.set (Fin.ofNat 3 i.val) (speckRound s.ksA[Fin.ofNat 3 i.val] s.ksB (s.cnt.setWidth 16)).1 := rfl
@[simp] theorem ksCycle_dpX (i : Fin 22) : (ksCycle i s).dpX = s.dpX := rfl
@[simp] theorem ksCycle_dpY (i : Fin 22) : (ksCycle i s).dpY = s.dpY := rfl
@[simp] theorem ksCycle_rdata (i : Fin 22) : (ksCycle i s).rdata = s.rdata := rfl
@[simp] theorem ksCycle_draws (i : Fin 22) : (ksCycle i s).draws = s.draws := rfl
@[simp] theorem ksCycle_host (i : Fin 22) : (ksCycle i s).host = s.host := rfl

@[simp] theorem encCycle_key0 (i : Fin 22) : (encCycle i s).key0 = s.key0 := rfl
@[simp] theorem encCycle_key1 (i : Fin 22) : (encCycle i s).key1 = s.key1 := rfl
@[simp] theorem encCycle_key2 (i : Fin 22) : (encCycle i s).key2 = s.key2 := rfl
@[simp] theorem encCycle_key3 (i : Fin 22) : (encCycle i s).key3 = s.key3 := rfl
@[simp] theorem encCycle_ptL (i : Fin 22) : (encCycle i s).ptL = s.ptL := rfl
@[simp] theorem encCycle_ptR (i : Fin 22) : (encCycle i s).ptR = s.ptR := rfl
@[simp] theorem encCycle_ctL (i : Fin 22) : (encCycle i s).ctL = if i.val = 21 then (speckRound s.dpX s.dpY s.rk[i]).1 else s.ctL := rfl
@[simp] theorem encCycle_ctR (i : Fin 22) : (encCycle i s).ctR = if i.val = 21 then (speckRound s.dpX s.dpY s.rk[i]).2 else s.ctR := rfl
@[simp] theorem encCycle_ctValid (i : Fin 22) : (encCycle i s).ctValid = if i.val = 21 then true else s.ctValid := rfl
@[simp] theorem encCycle_rk (i : Fin 22) : (encCycle i s).rk = s.rk := rfl
@[simp] theorem encCycle_rkv (i : Fin 22) : (encCycle i s).rkv = s.rkv := rfl
@[simp] theorem encCycle_err (i : Fin 22) : (encCycle i s).err = s.err := rfl
@[simp] theorem encCycle_errcode (i : Fin 22) : (encCycle i s).errcode = s.errcode := rfl
@[simp] theorem encCycle_phase (i : Fin 22) : (encCycle i s).phase = if i.val = 21 then phaseIdle else s.phase := rfl
@[simp] theorem encCycle_cnt (i : Fin 22) : (encCycle i s).cnt = if i.val = 21 then 0#5 else s.cnt + 1#5 := rfl
@[simp] theorem encCycle_comb (i : Fin 22) : (encCycle i s).comb = if i.val = 21 then false else s.comb := rfl
@[simp] theorem encCycle_ksB (i : Fin 22) : (encCycle i s).ksB = s.ksB := rfl
@[simp] theorem encCycle_ksA (i : Fin 22) : (encCycle i s).ksA = s.ksA := rfl
@[simp] theorem encCycle_dpX (i : Fin 22) : (encCycle i s).dpX = (speckRound s.dpX s.dpY s.rk[i]).1 := rfl
@[simp] theorem encCycle_dpY (i : Fin 22) : (encCycle i s).dpY = (speckRound s.dpX s.dpY s.rk[i]).2 := rfl
@[simp] theorem encCycle_rdata (i : Fin 22) : (encCycle i s).rdata = s.rdata := rfl
@[simp] theorem encCycle_draws (i : Fin 22) : (encCycle i s).draws = s.draws := rfl
@[simp] theorem encCycle_host (i : Fin 22) : (encCycle i s).host = s.host := rfl

end Sys2Proof.Machine
end

