-- ==== Sys2Proof/Laws/Ops.lean ====
section
/-! SUPPORT. Each shared operation, said once: what it does when it answers a next state. -/

namespace Sys2Proof.Machine

/-- `andThen` answers a next state exactly when its first part does. -/
theorem andThen_next {o : Result} {f : State → State} {t : State} :
    andThen o f = .next t ↔ ∃ u, o = .next u ∧ t = f u := by
  cases o <;> simp [andThen, eq_comm]

@[simp] theorem andThen_of_next (u : State) (f : State → State) : andThen (.next u) f = .next (f u) := rfl

/-- Idle means `PHASE = IDLE` (10 R21). -/
theorem busy_eq_false {s : State} : busy s = false ↔ s.phase = phaseIdle := by simp [busy]

theorem busy_eq_true {s : State} : busy s = true ↔ s.phase ≠ phaseIdle := by simp [busy]

@[simp] theorem phaseKS_ne_idle : ¬ phaseKS = phaseIdle := by decide
@[simp] theorem phaseENC_ne_idle : ¬ phaseENC = phaseIdle := by decide
@[simp] theorem phaseENC_ne_ks : ¬ phaseENC = phaseKS := by decide
@[simp] theorem phaseKS_ne_enc : ¬ phaseKS = phaseENC := by decide
@[simp] theorem phaseIdle_ne_ks : ¬ phaseIdle = phaseKS := by decide
@[simp] theorem phaseIdle_ne_enc : ¬ phaseIdle = phaseENC := by decide

/-- An engine cycle answers exactly when `CNT` is a round. -/
theorem atRound_next {f : Fin 22 → State → State} {s t : State} :
    atRound f s = .next t ↔ ∃ h : s.cnt.toNat < 22, t = f ⟨s.cnt.toNat, h⟩ s := by
  unfold atRound
  split <;> simp_all [eq_comm]

/-- While idle neither engine changes any state (10 R40). -/
@[simp] theorem engineStep_idle {s : State} (h : s.phase = phaseIdle) : engineStep s = .next s := by
  simp [engineStep, h]

theorem engineStep_ks {s : State} (h : s.phase = phaseKS) : engineStep s = atRound ksCycle s := by
  rw [engineStep, h, if_neg phaseKS_ne_idle, if_pos rfl]

theorem engineStep_enc {s : State} (h : s.phase = phaseENC) : engineStep s = atRound encCycle s := by
  rw [engineStep, h, if_neg phaseENC_ne_idle, if_neg phaseENC_ne_ks, if_pos rfl]

/-- Everything the engine step can do (10 R40). -/
theorem engineStep_cases {s t : State} (h : engineStep s = .next t) :
    (s.phase = phaseIdle ∧ t = s) ∨
    (s.phase = phaseKS ∧ ∃ hc : s.cnt.toNat < 22, t = ksCycle ⟨s.cnt.toNat, hc⟩ s) ∨
    (s.phase = phaseENC ∧ ∃ hc : s.cnt.toNat < 22, t = encCycle ⟨s.cnt.toNat, hc⟩ s) := by
  unfold engineStep at h
  split at h
  · next hp => cases h; exact .inl ⟨hp, rfl⟩
  · split at h
    · next hp => exact .inr (.inl ⟨hp, atRound_next.mp h⟩)
    · split at h
      · next hp => exact .inr (.inr ⟨hp, atRound_next.mp h⟩)
      · cases h

/-- The engine step answers in every state whose PHASE and CNT are legal. -/
theorem engineStep_answers {s : State} (hp : s.phase = phaseIdle ∨ s.phase = phaseKS ∨ s.phase = phaseENC)
    (hc : s.cnt.toNat < 22) : ∃ t, engineStep s = .next t := by
  obtain h | h | h := hp
  · exact ⟨s, engineStep_idle h⟩
  · exact ⟨_, by rw [engineStep_ks h]; exact atRound_next.mpr ⟨hc, rfl⟩⟩
  · exact ⟨_, by rw [engineStep_enc h]; exact atRound_next.mpr ⟨hc, rfl⟩⟩

/-- What no engine cycle changes: the key, the plaintext, the error record and the model's own fields (10 R45). -/
theorem engineStep_keeps {s t : State} (h : engineStep s = .next t) :
    t.key0 = s.key0 ∧ t.key1 = s.key1 ∧ t.key2 = s.key2 ∧ t.key3 = s.key3 ∧ t.ptL = s.ptL ∧ t.ptR = s.ptR ∧
    t.err = s.err ∧ t.errcode = s.errcode ∧ t.rdata = s.rdata ∧ t.draws = s.draws ∧ t.host = s.host := by
  obtain ⟨_, rfl⟩ | ⟨_, _, rfl⟩ | ⟨_, _, rfl⟩ := engineStep_cases h <;> simp

/-- A rejected write is the engine step and the error (60 R173). -/
theorem rejectBusy_next {s t : State} : rejectBusy s = .next t ↔ ∃ u, engineStep s = .next u ∧ t = raiseError .busy u :=
  andThen_next

/-- A command write while idle has the command's effect. -/
@[simp] theorem commandCycle_idle {accept : State → State} {s : State} (h : s.phase = phaseIdle) :
    commandCycle accept s = .next (accept s) := by
  simp [commandCycle, busy_eq_false.mpr h]

/-- A command write while busy is rejected. -/
theorem commandCycle_busy {accept : State → State} {s : State} (h : s.phase ≠ phaseIdle) :
    commandCycle accept s = rejectBusy s := by
  simp [commandCycle, busy_eq_true.mpr h]

/-- Everything a command write can do. -/
theorem commandCycle_cases {accept : State → State} {s t : State} (h : commandCycle accept s = .next t) :
    (s.phase = phaseIdle ∧ t = accept s) ∨
    (s.phase ≠ phaseIdle ∧ ∃ u, engineStep s = .next u ∧ t = raiseError .busy u) := by
  by_cases hp : s.phase = phaseIdle
  · rw [commandCycle_idle hp] at h; cases h; exact .inl ⟨hp, rfl⟩
  · rw [commandCycle_busy hp] at h; exact .inr ⟨hp, rejectBusy_next.mp h⟩

/-- Everything an idle register write can do: one key or plaintext word, one schedule entry, or nothing (20 R57). -/
theorem writeRegister_cases (a : Addr) (v : Word) (s : State) :
    writeRegister a v s = { s with key0 := v } ∨ writeRegister a v s = { s with key1 := v } ∨
    writeRegister a v s = { s with key2 := v } ∨ writeRegister a v s = { s with key3 := v } ∨
    writeRegister a v s = { s with ptL := v } ∨ writeRegister a v s = { s with ptR := v } ∨
    (∃ i, rkIndex a = some i ∧ writeRegister a v s = writeRk i v s) ∨ writeRegister a v s = s := by
  unfold writeRegister
  split; · simp
  split; · simp
  split; · simp
  split; · simp
  split; · simp
  split; · simp
  split
  · next i hi => exact .inr (.inr (.inr (.inr (.inr (.inr (.inl ⟨i, hi, rfl⟩))))))
  · simp

/-- Addresses 0x20 to 0x35 name the round-key entries in order (20 R51). -/
theorem rkIndex_eq_some {a : Addr} {i : Fin 22} : rkIndex a = some i ↔ a.toNat = 0x20 + i.val := by
  unfold rkIndex
  split
  · next h => simp [Fin.ext_iff]; omega
  · next h => simp; omega

@[simp] theorem rkIndex_rkAddr (i : Fin 22) : rkIndex (rkAddr i) = some i := by
  rw [rkIndex_eq_some]
  simp [rkAddr]
  omega

end Sys2Proof.Machine
end

