-- ==== Sys2Proof/Laws/Bus.lean ====
section
/-! SUPPORT. What a command, a bus cycle and a step can do, said once. -/

namespace Sys2Proof.Machine

/-- The effect of a command while the core is idle (60 R172). -/
def idleEffect : Instr → State → State
  | .nop, s => s
  | .expand, s => acceptExpand s
  | .encrypt, s => if schedValid s then acceptEncrypt s else raiseError .noSchedule s
  | .encryptCombined, s => acceptCombined s
  | .clrerr, s => clearError s

/-- Every command is its idle effect behind the busy check. -/
theorem exec_eq (i : Instr) (s : State) : exec i s = commandCycle (idleEffect i) s := by cases i <;> rfl

/-- The effect of a command word while the core is idle: a command's, or ILLEGAL_CMD (60 R172). -/
def idleWordEffect (v : Word) (s : State) : State :=
  match decode v with
  | .ok i => idleEffect i s
  | .error _ => raiseError .illegalCmd s

theorem commandWord_eq (v : Word) (s : State) : commandWord v s = commandCycle (idleWordEffect v) s := by
  unfold commandWord idleWordEffect
  split
  · next i h => simp [exec_eq, commandCycle, h]
  · next e h => simp [illegalCommand, commandCycle, h]

@[simp] theorem idleWordEffect_encode (i : Instr) (s : State) : idleWordEffect (encode i) s = idleEffect i s := by
  cases i <;> rfl

/-- The effect of a host write while idle (20 R57). -/
def idleWriteEffect (a : Addr) (v : Word) (s : State) : State :=
  if a = addrCmd then idleWordEffect v s else if inWset a then writeRegister a v s else s

/-- A host write while idle (20 R57). -/
theorem hostWrite_idle {s : State} (h : s.phase = phaseIdle) (a : Addr) (v : Word) :
    hostWrite a v s = .next (idleWriteEffect a v s) := by
  unfold hostWrite idleWriteEffect
  split
  · rw [commandWord_eq, commandCycle_idle h]
  · split
    · simp [busy_eq_false.mpr h]
    · exact engineStep_idle h

@[simp] theorem inWset_addrCmd : inWset addrCmd = true := by decide

/-- A host write while busy: to WSET it is rejected, elsewhere ignored (20 R53, 60 R173). -/
theorem hostWrite_busy {s : State} (h : s.phase ≠ phaseIdle) (a : Addr) (v : Word) :
    hostWrite a v s = if inWset a then rejectBusy s else engineStep s := by
  unfold hostWrite
  split
  · next ha => subst ha; rw [commandWord_eq, commandCycle_busy h, inWset_addrCmd, if_pos rfl]
  · simp [busy_eq_true.mpr h]

/-- Everything a cycle can do (20 R56): reset, an engine step with a read or a rejected write beside it, or a host write
while idle. -/
theorem cycle_cases {c : CycleIn} {s t : State} (h : cycle c s = .next t) :
    (c.rst = true ∧ t = resetCycle c.txn s) ∨
    (c.rst = false ∧ ∃ u, engineStep s = .next u ∧
      (t = u ∨ (∃ a, c.txn = .read a ∧ t = returnRead (readValue a s) u) ∨
        (s.phase ≠ phaseIdle ∧ (∃ a v, c.txn = .write a v ∧ inWset a = true) ∧ t = raiseError .busy u))) ∨
    (c.rst = false ∧ s.phase = phaseIdle ∧ ∃ a v, c.txn = .write a v ∧ inWset a = true ∧ t = idleWriteEffect a v s) := by
  unfold cycle at h
  split at h
  · next hr => cases h; exact .inl ⟨hr, rfl⟩
  · next hr =>
    have hr' : c.rst = false := by simpa using hr
    split at h
    · exact .inr (.inl ⟨hr', t, h, .inl rfl⟩)
    · next a ha =>
      obtain ⟨u, hu, rfl⟩ := andThen_next.mp h
      exact .inr (.inl ⟨hr', u, hu, .inr (.inl ⟨a, ha, rfl⟩)⟩)
    · next a v ha =>
      by_cases hp : s.phase = phaseIdle
      · rw [hostWrite_idle hp] at h
        cases h
        by_cases hw : inWset a = true
        · exact .inr (.inr ⟨hr', hp, a, v, ha, hw, rfl⟩)
        · refine .inr (.inl ⟨hr', s, engineStep_idle hp, .inl ?_⟩)
          have : a ≠ addrCmd := by rintro rfl; simp at hw
          simp [idleWriteEffect, this, hw]
      · rw [hostWrite_busy hp] at h
        split at h
        · next hw =>
          obtain ⟨u, hu, rfl⟩ := rejectBusy_next.mp h
          exact .inr (.inl ⟨hr', u, hu, .inr (.inr ⟨hp, ⟨a, v, ha, hw⟩, rfl⟩)⟩)
        · exact .inr (.inl ⟨hr', t, h, .inl rfl⟩)

/-- A step is one cycle with the host's inputs. -/
theorem step_eq (s : State) : step s = cycle (hostInput s) (nextCycle (hostRest s) s) := rfl

/-- The engine answers from a state exactly as from the same state with another host list and no read data. -/
theorem engineStep_nextCycle {s u : State} (hs : List HostOp) (h : engineStep s = .next u) :
    engineStep (nextCycle hs s) = .next (nextCycle hs u) := by
  obtain ⟨hp, rfl⟩ | ⟨hp, hc, rfl⟩ | ⟨hp, hc, rfl⟩ := engineStep_cases h
  · exact engineStep_idle (by simpa using hp)
  · rw [engineStep_ks (by simpa using hp)]; exact atRound_next.mpr ⟨by simpa using hc, rfl⟩
  · rw [engineStep_enc (by simpa using hp)]; exact atRound_next.mpr ⟨by simpa using hc, rfl⟩

/-- The next step of a state given a command word is that word's cycle. -/
theorem step_withCommandWrite (v : Word) (s : State) :
    step (withCommandWrite v s) = commandWord v (nextCycle s.host s) := rfl

/-- An engine step after the host's operation is taken is the engine step of the state before it. -/
theorem engineStep_of_nextCycle {s u : State} {hs : List HostOp} (h : engineStep (nextCycle hs s) = .next u) :
    ∃ w, engineStep s = .next w ∧ u = nextCycle hs w := by
  obtain ⟨hp, rfl⟩ | ⟨hp, hc, rfl⟩ | ⟨hp, hc, rfl⟩ := engineStep_cases h
  · exact ⟨s, engineStep_idle (by simpa using hp), rfl⟩
  · exact ⟨_, by rw [engineStep_ks (s := s) (by simpa using hp)]; exact atRound_next.mpr ⟨by simpa using hc, rfl⟩, rfl⟩
  · exact ⟨_, by rw [engineStep_enc (s := s) (by simpa using hp)]; exact atRound_next.mpr ⟨by simpa using hc, rfl⟩, rfl⟩

/-- Everything a step can do, in terms of the state before it: a reset; an engine step, with some read data or none, in a cycle that
writes nothing to WSET; an engine step with a rejected write; or a write to WSET while idle. -/
theorem step_cases {s t : State} (h : step s = .next t) :
    ((hostInput s).rst = true ∧ t = resetCycle (hostInput s).txn (nextCycle (hostRest s) s)) ∨
    ((hostInput s).rst = false ∧ (∀ a v, (hostInput s).txn = .write a v → inWset a = false) ∧
      ∃ w r, engineStep s = .next w ∧ t = { nextCycle (hostRest s) w with rdata := r }) ∨
    ((hostInput s).rst = false ∧ s.phase ≠ phaseIdle ∧ (∃ a v, (hostInput s).txn = .write a v ∧ inWset a = true) ∧
      ∃ w, engineStep s = .next w ∧ t = raiseError .busy (nextCycle (hostRest s) w)) ∨
    ((hostInput s).rst = false ∧ s.phase = phaseIdle ∧
      ∃ a v, (hostInput s).txn = .write a v ∧ inWset a = true ∧ t = idleWriteEffect a v (nextCycle (hostRest s) s)) := by
  rw [step_eq] at h
  generalize hostInput s = c at h ⊢
  generalize hostRest s = hr at h ⊢
  obtain ⟨rst, txn⟩ := c
  cases rst
  · cases txn with
    | noTxn =>
      obtain ⟨w, hw, rfl⟩ := engineStep_of_nextCycle (show engineStep (nextCycle hr s) = .next t from h)
      exact .inr (.inl ⟨rfl, by simp, w, none, hw, rfl⟩)
    | read a =>
      obtain ⟨u, hu, rfl⟩ := andThen_next.mp h
      obtain ⟨w, hw, rfl⟩ := engineStep_of_nextCycle hu
      exact .inr (.inl ⟨rfl, by simp, w, _, hw, rfl⟩)
    | write a v =>
      have h : hostWrite a v (nextCycle hr s) = .next t := h
      by_cases hp : s.phase = phaseIdle
      · rw [hostWrite_idle (s := nextCycle hr s) hp] at h
        cases h
        by_cases ha : inWset a = true
        · exact .inr (.inr (.inr ⟨rfl, hp, a, v, rfl, ha, rfl⟩))
        · refine .inr (.inl ⟨rfl, by simpa using ha, s, none, engineStep_idle hp, ?_⟩)
          have : a ≠ addrCmd := by rintro rfl; simp at ha
          simp [idleWriteEffect, this, ha]
          rfl
      · rw [hostWrite_busy (s := nextCycle hr s) hp] at h
        split at h
        · next ha =>
          obtain ⟨u, hu, rfl⟩ := rejectBusy_next.mp h
          obtain ⟨w, hw, rfl⟩ := engineStep_of_nextCycle hu
          exact .inr (.inr (.inl ⟨rfl, hp, ⟨a, v, rfl, ha⟩, w, hw, rfl⟩))
        · next ha =>
          obtain ⟨w, hw, rfl⟩ := engineStep_of_nextCycle h
          exact .inr (.inl ⟨rfl, by simpa using ha, w, none, hw, rfl⟩)
  · cases h
    exact .inl ⟨rfl, rfl⟩

end Sys2Proof.Machine
end

