-- ==== Sys2Proof/Laws/PerInstr.lean ====
section
/-! SUPPORT. Statements made per instruction (LAWS.json): EncodesWellFormed, that a command's word is a legal one (30 R75) that
differs from every other command's. -/

namespace Sys2Proof.Laws.EncodesWellFormed

/-- The command is well formed, its CMD16 word is legal, and no other command has that word. -/
def Statement (i : Instr) : Prop :=
  i.wf = true ∧ cmdWordWf (encode i) = true ∧ ∀ j, encode j = encode i → j = i

theorem nop : Statement .nop := ⟨rfl, rfl, fun j h => by cases j <;> first | rfl | cases h⟩
theorem expand : Statement .expand := ⟨rfl, rfl, fun j h => by cases j <;> first | rfl | cases h⟩
theorem encrypt : Statement .encrypt := ⟨rfl, rfl, fun j h => by cases j <;> first | rfl | cases h⟩
theorem encryptCombined : Statement .encryptCombined := ⟨rfl, rfl, fun j h => by cases j <;> first | rfl | cases h⟩
theorem clrerr : Statement .clrerr := ⟨rfl, rfl, fun j h => by cases j <;> first | rfl | cases h⟩

end Sys2Proof.Laws.EncodesWellFormed
end

