-- ==== Sys2Proof/Machine/Asm.lean ====
section
/-! DEFINITION. Host-program syntax (30 R78), the pseudo-instructions and their expansions (30 R79) and the mnemonics with
their aliases (30 R80). Text is a list of characters. Nothing in the core depends on this file. -/

namespace Sys2Proof.Machine.Asm

/-- The register names of 20 R51 but for the round keys, and their addresses. -/
def regNames : List (String × Addr) :=
  [("CMD", 0x00#6), ("STATUS", 0x01#6), ("KEY0", 0x02#6), ("KEY1", 0x03#6), ("KEY2", 0x04#6), ("KEY3", 0x05#6),
   ("PT_L", 0x06#6), ("PT_R", 0x07#6), ("CT_L", 0x08#6), ("CT_R", 0x09#6), ("RKV_LO", 0x0A#6), ("RKV_HI", 0x0B#6),
   ("ROUNDS", 0x0E#6), ("ID", 0x0F#6)]

/-- The command mnemonics, and the source's function names as their aliases (30 R80). -/
def commandNames : List (String × Instr) :=
  [("NOP", .nop), ("EXPAND", .expand), ("ENCRYPT", .encrypt), ("ENCRYPT_COMBINED", .encryptCombined), ("CLRERR", .clrerr),
   ("expand", .expand), ("encryptBlock", .encrypt), ("encryptCombined", .encryptCombined)]

/-- The value a name stands for in a table of names. -/
def lookupName {α : Type} (t : List Char) : List (String × α) → Option α
  | [] => none
  | (n, v) :: rest => if n.toList = t then some v else lookupName t rest

/-- The address of a round-key name RK0 to RK21, its letters in capitals (20 R51). -/
def rkName (t : List Char) : Option Addr :=
  ((List.finRange 22).find? fun i => 'R' :: 'K' :: Nat.toDigits 10 i.val = t).map rkAddr

/-- The address of a register name; register names are case-insensitive (30 R78). -/
def regName (t : List Char) : Option Addr :=
  let u := t.map Char.toUpper
  match lookupName u regNames with
  | some a => some a
  | none => rkName u

/-- The value of one digit, none where the character is no digit of the base. -/
def digit (base : Nat) (c : Char) : Option Nat :=
  let n := c.toNat
  let d := if 48 ≤ n ∧ n ≤ 57 then n - 48 else if 65 ≤ n ∧ n ≤ 70 then n - 55 else if 97 ≤ n ∧ n ≤ 102 then n - 87 else 16
  if d < base then some d else none

/-- The value of a list of digits after the value `acc`. -/
def digits (base : Nat) (acc : Nat) : List Char → Option Nat
  | [] => some acc
  | c :: cs =>
    match digit base c with
    | some d => digits base (acc * base + d) cs
    | none => none

/-- A number in hex (`0x`) or decimal (30 R78). -/
def number : List Char → Option Nat
  | [] => none
  | '0' :: 'x' :: c :: cs => digits 16 0 (c :: cs)
  | c :: cs => digits 10 0 (c :: cs)

/-- A number in 0..0xFFFF. -/
def word (t : List Char) : Option Word :=
  match number t with
  | some n => if n < 65536 then some (BitVec.ofNat 16 n) else none
  | none => none

/-- `<imm16>`: a number in 0..0xFFFF, or a command mnemonic for its CMD16 value (30 R78). -/
def imm16 (t : List Char) : Option Word :=
  match lookupName t commandNames with
  | some i => some (encode i)
  | none => word t

/-- `<reg>`: a register name or a numeric address `[0xNN]` (30 R78). -/
def reg (t : List Char) : Option Addr :=
  match t with
  | '[' :: rest =>
    match rest.reverse with
    | ']' :: inner =>
      match number inner.reverse with
      | some n => if n < 64 then some (BitVec.ofNat 6 n) else none
      | none => none
    | _ => none
  | _ => regName t

/-- `WR <reg>, <imm16>` (30 R78). -/
def wr (a : Addr) (v : Word) : List HostOp := [.cycle (writeIn a v)]

/-- `RD <reg>` (30 R78). -/
def rd (a : Addr) : List HostOp := [.cycle (readIn a)]

/-- `CMD <mnemonic>` (30 R79). -/
def cmd (i : Instr) : List HostOp := wr addrCmd (encode i)

/-- `LDKEY k3, k2, k1, k0`: most-significant word first (30 R79). -/
def ldkey (k3 k2 k1 k0 : Word) : List HostOp := wr 0x05#6 k3 ++ wr 0x04#6 k2 ++ wr 0x03#6 k1 ++ wr 0x02#6 k0

/-- `LDPT l, r` (30 R79). -/
def ldpt (l r : Word) : List HostOp := wr 0x06#6 l ++ wr 0x07#6 r

/-- `LDRK i, v` (30 R79). -/
def ldrk (i : Fin 22) (v : Word) : List HostOp := wr (rkAddr i) v

/-- `RDCT` (30 R79). -/
def rdct : List HostOp := rd 0x08#6 ++ rd 0x09#6

/-- A line's text before its comment (30 R78: `;` starts a comment). -/
def uncomment (l : List Char) : List Char := l.takeWhile (· != ';')

/-- A token put before the tokens that follow it, where it is not empty. -/
def consToken (t : List Char) (ts : List (List Char)) : List (List Char) :=
  match t with
  | [] => ts
  | _ :: _ => t.reverse :: ts

/-- The tokens of a line: words between blanks, the comma and the arrow `->` (`cur` is the word being read, backwards; log 17). -/
def tokens (cur : List Char) : List Char → List (List Char)
  | [] => consToken cur []
  | '-' :: '>' :: cs => consToken cur (['-', '>'] :: tokens [] cs)
  | c :: cs =>
    if c = ' ' ∨ c = '\t' then consToken cur (tokens [] cs)
    else if c = ',' then consToken cur ([','] :: tokens [] cs)
    else tokens (c :: cur) cs

/-- The statements of 30 R78 and R79. -/
inductive Keyword where
  | wr | rd | idle | rst | cmd | ldkey | ldpt | ldrk | rdct | wait
deriving DecidableEq, Repr

/-- The spelling of the statements (30 R78, R79). -/
def keywords : List (String × Keyword) :=
  [("WR", .wr), ("RD", .rd), ("IDLE", .idle), ("RST", .rst), ("CMD", .cmd), ("LDKEY", .ldkey), ("LDPT", .ldpt),
   ("LDRK", .ldrk), ("RDCT", .rdct), ("WAIT", .wait)]

/-- The operations of one statement with its operand tokens. `RD` is also read as listings write it, with the returned value after
`->` (30 R78): the read is the same, and `listedValue` gives the value. A data operand of LDKEY, LDPT or LDRK is an `<imm16>`, so it
may be a command mnemonic: 30 R79 does not type it, and the model takes it as the WR of the expansion does (DEDUCED; log 18). -/
def statement (k : Keyword) (args : List (List Char)) : Option (List HostOp) :=
  match k, args with
  | .wr, [r, [','], v] => do wr (← reg r) (← imm16 v)
  | .rd, [r] => do rd (← reg r)
  | .rd, [r, ['-', '>'], v] =>
    match reg r, word v with
    | some a, some _ => some (rd a)
    | _, _ => none
  | .idle, [] => some [.cycle idleIn]
  | .rst, [] => some [.cycle rstIn]
  | .cmd, [m] => do cmd (← lookupName m commandNames)
  | .ldkey, [a, [','], b, [','], c, [','], d] => do ldkey (← imm16 a) (← imm16 b) (← imm16 c) (← imm16 d)
  | .ldpt, [a, [','], b] => do ldpt (← imm16 a) (← imm16 b)
  | .ldrk, [i, [','], v] =>
    match number i, imm16 v with
    | some n, some w => if h : n < 22 then some (ldrk ⟨n, h⟩ w) else none
    | _, _ => none
  | .rdct, [] => some rdct
  | .wait, [] => some [.wait]
  | _, _ => none

/-- The operations of one line of a host program, none where it is no statement (30 R78: one statement per line). -/
def line (l : List Char) : Option (List HostOp) :=
  match tokens [] (uncomment l) with
  | [] => some []
  | k :: args =>
    match lookupName k keywords with
    | some kw => statement kw args
    | none => none

/-- The value that a line of a listing says its read returned, written after `->` (30 R78). It is a note on a run and no operation. -/
def listedValue (l : List Char) : Option Word :=
  match tokens [] (uncomment l) with
  | [_, _, ['-', '>'], v] => if (line l).isSome then word v else none
  | _ => none

/-- The operations of a host program, line by line. -/
def program : List (List Char) → Option (List HostOp)
  | [] => some []
  | l :: ls =>
    match line l, program ls with
    | some a, some b => some (a ++ b)
    | _, _ => none

end Sys2Proof.Machine.Asm
end

