-- ==== Sys2Proof/Tests/Slice0.lean ====
section
/-! SUPPORT. Tests against the spec's own worked values (95 test vectors and the examples of the rules), the well-formedness smoke
tests, and a witness for every statement that has hypotheses. No expected value comes from the model. -/

namespace Sys2Proof.Tests

open Sys2Proof Sys2Proof.Machine

/-! ## Helpers -/

/-- The state of an outcome, the reset state where there is none. -/
def stateOf : Result → State
  | .next t => t
  | .fault _ => State.reset
  | .refused _ => State.reset

/-- The state after one step in which the host does `o`. -/
def doing (o : HostOp) (s : State) : State := stateOf (step { s with host := [o] })

/-- The state after one step in which the host writes `v` to address `a`. -/
def writing (a : Addr) (v : Word) (s : State) : State := doing (.cycle (writeIn a v)) s

/-- The core in key-schedule cycle `n` of EXPAND (`c = false`) or ENCRYPT_COMBINED (`c = true`) with the zero key and block. -/
def ksAt (n : Nat) (c : Bool) : State :=
  { State.reset with
    phase := 1#2, cnt := BitVec.ofNat 5 n, comb := c, rkv := BitVec.ofNat 22 (2 ^ n - 1)
    rk := expandFn 0#16 0#16 0#16 0#16, ksA := (keyLoop 0#16 0#16 0#16 0#16 n).a, ksB := (keyLoop 0#16 0#16 0#16 0#16 n).b }

/-- The core in encryption cycle `n` of ENCRYPT with the zero block and an all-zero schedule, which keeps the block zero
(V-ENC-6.1). -/
def encAt (n : Nat) : State :=
  { State.reset with phase := 2#2, cnt := BitVec.ofNat 5 n, rkv := 0x3FFFFF#22 }

/-- An idle core with a complete all-zero schedule. -/
def scheduled : State := { State.reset with rkv := 0x3FFFFF#22 }

/-- An idle core with all but one entry written (V-ERR-14). -/
def almostScheduled : State := { State.reset with rkv := 0x1FFFFF#22 }

/-- An idle core with NO_SCHEDULE recorded: STATUS 0x0038 (43 R155). -/
def erred : State := { State.reset with err := true, errcode := 3#4 }

/-! ## Well-formedness smoke tests: what each check refuses (30 R71, R72, R75; 93 U5, U8) -/

theorem test_wf_all : (Instr.nop.wf && Instr.expand.wf && Instr.encrypt.wf && Instr.encryptCombined.wf && Instr.clrerr.wf) = true := by
  decide
/-- V-ERR-3: RSVD != 0 with a legal OP. -/
theorem test_rsvd_refused : rsvdZero 0x0011#16 = false ∧ opAssigned 0x0011#16 = true ∧ cmdWordWf 0x0011#16 = false := by decide
/-- V-ERR-2: OP out of range. -/
theorem test_op_refused : rsvdZero 0x0005#16 = true ∧ opAssigned 0x0005#16 = false ∧ cmdWordWf 0x0005#16 = false := by decide
theorem test_last_op_accepted : cmdWordWf 0x0004#16 = true ∧ cmdWordWf 0x000F#16 = false ∧ cmdWordWf 0x8000#16 = false := by decide
/-- 30 R72: IDLE and RESET have ADDR and DATA 0, READ has DATA 0 (log 11). -/
theorem test_txn24_refused : decodeTxn24 0x010000#24 = none ∧ decodeTxn24 0x410001#24 = none ∧ decodeTxn24 0xC00001#24 = none := by
  decide
/-- 93 U5 and U8: a program that does not begin with a reset, or that accesses a reserved address, is not admitted. -/
theorem test_admitted_program :
    admittedProgram [.cycle rstIn, .cycle (readIn 0x3F#6)] = false ∧ admittedProgram [.cycle (readIn 0x01#6)] = false ∧
    admittedProgram [.cycle rstIn, .cycle (writeIn 0x00#6 0x0001#16), .wait] = true := by decide

/-! ## Decoding: the words of 30 R74 written bit by bit, and the interface's two functions -/

theorem test_decode_nop : decode 0b0000000000000000#16 = .ok .nop := by decide
theorem test_decode_expand : decode 0b0000000000000001#16 = .ok .expand := by decide
theorem test_decode_encrypt : decode 0b0000000000000010#16 = .ok .encrypt := by decide
theorem test_decode_encryptCombined : decode 0b0000000000000011#16 = .ok .encryptCombined := by decide
theorem test_decode_clrerr : decode 0b0000000000000100#16 = .ok .clrerr := by decide
theorem test_decode_reserved : decode 0x000F#16 = .error .reservedOpcode ∧ decode 0x0010#16 = .error .reservedField := by decide
theorem test_table_word : decodeTableWord 16 0x0003 = some .encryptCombined ∧ decodeTableWord 16 0x0005 = none ∧
    decodeTableWord 16 0x1001 = none := by decide
theorem test_encode_words : encode .nop = 0x0000#16 ∧ encode .expand = 0x0001#16 ∧ encode .encrypt = 0x0002#16 ∧
    encode .encryptCombined = 0x0003#16 ∧ encode .clrerr = 0x0004#16 := by decide
/-- The first step after reset runs the placed command. -/
theorem test_fetch : (stateOf (step (State.reset.withFetchWord 16 0x0001))).phase = phaseKS ∧
    (stateOf (step (State.reset.withFetchWord 16 0x0002))).errcode = 3#4 := by decide

/-- 70 R213, by hand: 44 cycles at 11 cycles a second are 4 seconds. -/
theorem test_seconds : Config.seconds (K := ℚ) ⟨11, by decide⟩ Config.latCombined = 4 := by decide +kernel

/-! ## TXN24 and the assembler (30 R72, R78 to R80; 95 P1, P3, P4) -/

/-- The four words that 30 R72 spells out. -/
theorem test_txn24_words :
    encodeTxn24 (writeIn 0x02#6 0x0100#16) = some 0x820100#24 ∧ encodeTxn24 (readIn 0x01#6) = some 0x410000#24 ∧
    encodeTxn24 idleIn = some 0x000000#24 ∧ encodeTxn24 rstIn = some 0xC00000#24 := by decide
/-- P1 cycle 1 and P3 cycle 22. -/
theorem test_txn24_listing :
    decodeTxn24 0x851918#24 = some (writeIn 0x05#6 0x1918#16) ∧ decodeTxn24 0xB5ED64#24 = some (writeIn 0x35#6 0xED64#16) := by decide
theorem test_asm_wr : Asm.line "WR key3, 0x1918 ; the top word".toList = some [.cycle (writeIn 0x05#6 0x1918#16)] := by decide
theorem test_asm_rd : Asm.line "RD RK21".toList = some [.cycle (readIn 0x35#6)] ∧ Asm.line "RD [0x3F]".toList = some [.cycle (readIn 0x3F#6)] := by
  decide
/-- 30 R78 and P2 cycle 2: a listing's line, its value, and what the read returns from STATUS 0x0038. -/
theorem test_asm_listing : Asm.line "RD STATUS -> 0x0038".toList = some [.cycle (readIn 0x01#6)] ∧
    Asm.listedValue "RD STATUS -> 0x0038 ; P2".toList = some 0x0038#16 ∧
    (doing (.cycle (readIn 0x01#6)) erred).rdata = Asm.listedValue "RD STATUS -> 0x0038".toList ∧
    Asm.line "RD STATUS ->".toList = none ∧ Asm.line "WR KEY0, 1 -> 1".toList = none := by decide
/-- 30 R79: LDRK expands to WR, whose data may be a mnemonic (log 18). -/
theorem test_asm_mnemonic_operand : Asm.line "LDRK 0, CLRERR".toList = Asm.line "WR RK0, CLRERR".toList ∧
    Asm.line "LDRK 0, CLRERR".toList = some [.cycle (writeIn 0x20#6 0x0004#16)] := by decide
theorem test_asm_cmd : Asm.line "CMD encryptBlock".toList = some [.cycle (writeIn 0x00#6 0x0002#16)] ∧
    Asm.line "WR CMD, ENCRYPT_COMBINED".toList = some [.cycle (writeIn 0x00#6 0x0003#16)] := by decide
/-- 30 R79: LDKEY takes its operands most-significant word first. -/
theorem test_asm_ldkey : Asm.line "LDKEY 0x1918, 0x1110, 0x0908, 256".toList =
    some [.cycle (writeIn 0x05#6 0x1918#16), .cycle (writeIn 0x04#6 0x1110#16), .cycle (writeIn 0x03#6 0x0908#16),
      .cycle (writeIn 0x02#6 0x0100#16)] := by decide
theorem test_asm_others : Asm.program ["RST".toList, "LDPT 1, 2".toList, "LDRK 21, 3".toList, "WAIT".toList, "IDLE".toList, "".toList] =
    some [.cycle rstIn, .cycle (writeIn 0x06#6 1#16), .cycle (writeIn 0x07#6 2#16), .cycle (writeIn 0x35#6 3#16), .wait, .cycle idleIn] := by
  decide
theorem test_asm_refused : Asm.line "WR KEY4, 1".toList = none ∧ Asm.line "WR KEY0, 65536".toList = none ∧
    Asm.line "LDRK 22, 0".toList = none ∧ Asm.line "RD [0x40]".toList = none := by decide

/-! ## The datapath (95 sections 2.1 to 2.4) -/

/-- V-ARITH-5, 8, 15, 16, 23, 24. -/
theorem test_arith : add16 0xFFFF#16 0xFFFF#16 = 0xFFFE#16 ∧ xor16 0x1234#16 0xFFFF#16 = 0xEDCB#16 ∧ ror7 0x1234#16 = 0x6824#16 ∧
    ror7 0x007F#16 = 0xFE00#16 ∧ rol2 0x1234#16 = 0x48D0#16 ∧ rol2 0x3FFF#16 = 0xFFFC#16 := by decide
/-- V-ROUND-3, 6, 7 (operands alike), 8, 10. -/
theorem test_round : speckRound 0xFFFF#16 0x0001#16 0#16 = (0x0000#16, 0x0004#16) ∧
    speckRound 0x8000#16 0x8000#16 0x1234#16 = (0x9334#16, 0x9336#16) ∧
    speckRound 0x1234#16 0x1234#16 0#16 = (0x7A58#16, 0x3288#16) ∧ speckRound 0x0908#16 0x0100#16 0#16 = (0x1112#16, 0x1512#16) ∧
    speckRound 0x0001#16 0x0000#16 0#16 = (0x0200#16, 0x0200#16) := by decide
/-- V-ROUND-4, its inverse column. -/
theorem test_round_inverse : speckRoundInv 0x5316#16 0xF627#16 0x0100#16 = (0x6574#16, 0x694C#16) := by decide
/-- V-KS-1: the schedule of the known-answer key. -/
theorem test_schedule_known_answer : (expandFn 0x0100#16 0x0908#16 0x1110#16 0x1918#16).toList =
    [0x0100#16, 0x1512#16, 0x617D#16, 0x1458#16, 0x6919#16, 0x77E2#16, 0x0C89#16, 0xCCDB#16, 0xEFEA#16, 0x4E33#16, 0x76F4#16] ++
    [0x5976#16, 0xEE8B#16, 0xDB04#16, 0x4617#16, 0xF37E#16, 0x87B4#16, 0x8ECA#16, 0xED9B#16, 0x3A52#16, 0x8229#16, 0xED64#16] := by
  decide +kernel
/-- V-KS-3: the all-ones key, S[1], S[4] and S[21]. -/
theorem test_schedule_all_ones : (expandFn 0xFFFF#16 0xFFFF#16 0xFFFF#16 0xFFFF#16)[1] = 0x0001#16 ∧
    (expandFn 0xFFFF#16 0xFFFF#16 0xFFFF#16 0xFFFF#16)[4] = 0xFE5A#16 ∧
    (expandFn 0xFFFF#16 0xFFFF#16 0xFFFF#16 0xFFFF#16)[21] = 0x3538#16 := by decide +kernel
/-- V-KS-1: the last, unobservable update (41 R115). -/
theorem test_last_update : (keyLoop 0x0100#16 0x0908#16 0x1110#16 0x1918#16 22).b = 0xDDFA#16 ∧
    (keyLoop 0x0100#16 0x0908#16 0x1110#16 0x1918#16 22).a[0] = 0x6869#16 := by decide +kernel
/-- V-ENC-1 and S-1: the known answer. -/
theorem test_encrypt_known_answer :
    encryptFn 0x6574#16 0x694C#16 (expandFn 0x0100#16 0x0908#16 0x1110#16 0x1918#16) = (0xA868#16, 0x42F2#16) := by decide +kernel
/-- V-ENC-2.1 and V-ENC-6.4. -/
theorem test_encrypt_zero : encryptFn 0#16 0#16 (expandFn 0#16 0#16 0#16 0#16) = (0x2BB9#16, 0xC642#16) ∧
    encryptFn 0x0001#16 0#16 (Vector.replicate 22 0#16) = (0x4803#16, 0x18A3#16) := by decide +kernel

/-! ## Commands and cycles (95 sections 2.7 to 2.9) -/

/-- 43 R154: a NOP while idle does not clear an error. -/
theorem test_nop : statusWord (writing 0x00#6 0x0000#16 erred) = 0x0038#16 := by decide
/-- V-TIME-1: the first and second STATUS after EXPAND. -/
theorem test_expand : statusWord (writing 0x00#6 0x0001#16 State.reset) = 0x0101#16 ∧
    statusWord (doing (.cycle idleIn) (writing 0x00#6 0x0001#16 State.reset)) = 0x0901#16 := by decide
/-- 41 R116: the loads, each from its own key register. -/
theorem test_expand_loads :
    (acceptExpand { State.reset with key0 := 1#16, key1 := 2#16, key2 := 3#16, key3 := 4#16 }).ksB = 1#16 ∧
    (acceptExpand { State.reset with key0 := 1#16, key1 := 2#16, key2 := 3#16, key3 := 4#16 }).ksA = #v[2#16, 3#16, 4#16] := by decide
/-- V-ERR-13 and V-ERR-14: ENCRYPT with all and with 21 entries written. -/
theorem test_encrypt : statusWord (writing 0x00#6 0x0002#16 scheduled) = 0x0203#16 ∧
    statusWord (writing 0x00#6 0x0002#16 almostScheduled) = 0x0038#16 := by decide
/-- V-TIME-3: the first STATUS after ENCRYPT_COMBINED, and the last of its key-schedule phase and the one after. -/
theorem test_combined : statusWord (writing 0x00#6 0x0003#16 State.reset) = 0x0501#16 ∧ statusWord (ksAt 21 true) = 0xAD01#16 ∧
    statusWord (doing (.cycle idleIn) (ksAt 21 true)) = 0x0603#16 := by decide
/-- V-ERR-4: CLRERR from STATUS 0x0038. -/
theorem test_clrerr : statusWord erred = 0x0038#16 ∧ statusWord (writing 0x00#6 0x0004#16 erred) = 0x0000#16 := by decide
/-- V-ERR-2 and V-ERR-3. -/
theorem test_illegal : statusWord (writing 0x00#6 0x0005#16 State.reset) = 0x0028#16 ∧
    statusWord (writing 0x00#6 0x0011#16 State.reset) = 0x0028#16 := by decide
/-- V-ERR-5 and V-ERR-6: in the cycle after EXPAND a key write is lost, and an illegal word reports BUSY. -/
theorem test_busy : statusWord (writing 0x02#6 0x1234#16 (ksAt 0 false)) = 0x0919#16 ∧
    (writing 0x02#6 0x1234#16 (ksAt 0 false)).key0 = 0#16 ∧ statusWord (writing 0x00#6 0x0005#16 (ksAt 0 false)) = 0x0919#16 := by decide
/-- V-ERR-7: the first error wins. -/
theorem test_first_error_wins : statusWord (writing 0x00#6 0x0005#16 erred) = 0x0038#16 := by decide
/-- V-ERR-10 and V-ERR-11: a plaintext write in the completion cycle, and one cycle later. -/
theorem test_completion_cycle_is_busy : statusWord (writing 0x06#6 0xAAAA#16 (ksAt 21 false)) = 0x001A#16 ∧
    (writing 0x06#6 0xAAAA#16 (ksAt 21 false)).ptL = 0#16 ∧
    (writing 0x06#6 0xAAAA#16 (doing (.cycle idleIn) (ksAt 21 false))).ptL = 0xAAAA#16 := by decide
/-- V-RST-2: a partial schedule is read masked, and a reset ends the command. -/
theorem test_reset_during_expand : readValue 0x0A#6 (ksAt 10 false) = 0x03FF#16 ∧ readValue 0x2A#6 (ksAt 10 false) = 0#16 ∧
    statusWord (ksAt 10 false) = 0x5101#16 ∧ statusWord (doing (.cycle rstIn) (ksAt 10 false)) = 0#16 := by decide
/-- V-RST-1: constants and reserved addresses. -/
theorem test_reads_after_reset : readValue 0x0E#6 State.reset = 0x0016#16 ∧ readValue 0x0F#6 State.reset = 0x2040#16 ∧
    readValue 0x00#6 State.reset = 0#16 ∧ readValue 0x3F#6 State.reset = 0#16 := by decide
/-- 20 R56: a read returns the value before the edge. -/
theorem test_read_is_pre_edge : (doing (.cycle (readIn 0x01#6)) (encAt 21)).rdata = some 0xAA03#16 ∧
    statusWord (doing (.cycle (readIn 0x01#6)) (encAt 21)) = 0x0006#16 := by decide

/-! ## Witnesses: for each statement with hypotheses, states and operands that meet all of them -/

/-- Bit numbers at both ends (Xor16IsBitwise, Ror7RotatesRightBySeven, Rol2RotatesLeftByTwo). -/
theorem witness_bit_numbers : 0 < 16 ∧ 15 < 16 := by decide

theorem witness_KeyIterationFollowsTheReferenceRoles :
    ((0 : Fin 3).val = (21 : Fin 22).val % 3) ∧ ((1 : Fin 3).val ≠ (21 : Fin 22).val % 3) := by decide

theorem witness_ScheduleDeterminesTheKey :
    expandFn 0x0100#16 0x0908#16 0x1110#16 0x1918#16 = expandFn 0x0100#16 0x0908#16 0x1110#16 0x1918#16 := rfl

/-- Idle and busy states for each clause (NopChangesNothing). -/
theorem witness_NopChangesNothing : erred.phase = phaseIdle ∧ (encAt 21).phase ≠ phaseIdle ∧
    engineStep (encAt 21) = .next (stateOf (engineStep (encAt 21))) := ⟨by decide, by decide, rfl⟩

theorem witness_ClrerrClearsTheErrorRecord :
    erred.phase = phaseIdle ∧ (State.reset.phase = phaseIdle ∧ State.reset.err = false ∧ State.reset.errcode = 0#4) ∧
    (statusWord erred = 0x0038#16 ∧ exec .clrerr erred = .next (stateOf (exec .clrerr erred))) ∧
    ((ksAt 0 false).phase ≠ phaseIdle ∧ engineStep (ksAt 0 false) = .next (stateOf (engineStep (ksAt 0 false)))) :=
  ⟨by decide, by decide, ⟨by decide, rfl⟩, by decide, rfl⟩

/-- ExpandIsAcceptedWhileIdle and CombinedIsAcceptedWhileIdle, with and without a recorded error. -/
theorem witness_AcceptedWhileIdle : State.reset.phase = phaseIdle ∧ erred.phase = phaseIdle := by decide

theorem witness_EncryptIsAcceptedWithACompleteSchedule : (scheduled.phase = phaseIdle ∧ scheduled.rkv = 0x3FFFFF#22) ∧
    (almostScheduled.phase = phaseIdle ∧ almostScheduled.rkv ≠ 0x3FFFFF#22) := by decide

/-- One witness for each clause, at the boundary words 4, 5 and 2. -/
theorem witness_OneErrorIsReportedInPriorityOrder :
    ((ksAt 21 false).err = false ∧ (ksAt 21 false).phase ≠ phaseIdle ∧
      hostWrite addrCmd 0x0005#16 (ksAt 21 false) = .next (stateOf (hostWrite addrCmd 0x0005#16 (ksAt 21 false)))) ∧
    (State.reset.err = false ∧ State.reset.phase = phaseIdle ∧ 4 < (0x0005#16).toNat ∧
      hostWrite addrCmd 0x0005#16 State.reset = .next (stateOf (hostWrite addrCmd 0x0005#16 State.reset))) ∧
    (almostScheduled.err = false ∧ almostScheduled.phase = phaseIdle ∧ almostScheduled.rkv ≠ 0x3FFFFF#22 ∧
      hostWrite addrCmd 0x0002#16 almostScheduled = .next (stateOf (hostWrite addrCmd 0x0002#16 almostScheduled))) ∧
    (scheduled.err = false ∧ scheduled.phase = phaseIdle ∧ scheduled.rkv = 0x3FFFFF#22 ∧
      hostWrite addrCmd 0x0002#16 scheduled = .next (stateOf (hostWrite addrCmd 0x0002#16 scheduled))) ∧
    (hostWrite addrCmd 0x0004#16 State.reset = .next (stateOf (hostWrite addrCmd 0x0004#16 State.reset))) :=
  ⟨⟨by decide, by decide, rfl⟩, ⟨by decide, by decide, by decide, rfl⟩, ⟨by decide, by decide, by decide, rfl⟩,
    ⟨by decide, by decide, by decide, rfl⟩, rfl⟩

/-- The least and the greatest word of each kind of illegal word, idle and busy. -/
theorem witness_IllegalWordsAreRecordedAndDropped :
    ((0x0010#16).toNat / 16 ≠ 0 ∧ (0xFFF4#16).toNat / 16 ≠ 0 ∧ 5 ≤ (0x0005#16).toNat % 16 ∧ 5 ≤ (0x000F#16).toNat % 16) ∧
    State.reset.phase = phaseIdle ∧ (encAt 0).phase ≠ phaseIdle ∧ engineStep (encAt 0) = .next (stateOf (engineStep (encAt 0))) :=
  ⟨by decide, by decide, by decide, rfl⟩

/-- A busy state, and addresses at the ends of the ranges inside and outside WSET. -/
theorem witness_WritesWhileBusyAreDropped :
    ((encAt 21).phase ≠ phaseIdle ∧ cycle idleIn (encAt 21) = .next (stateOf (cycle idleIn (encAt 21)))) ∧
    (inWset 0x00#6 = true ∧ inWset 0x02#6 = true ∧ inWset 0x07#6 = true ∧ inWset 0x20#6 = true ∧ inWset 0x35#6 = true) ∧
    (inWset 0x01#6 = false ∧ inWset 0x08#6 = false ∧ inWset 0x1F#6 = false ∧ inWset 0x36#6 = false ∧ inWset 0x3F#6 = false) :=
  ⟨⟨by decide, rfl⟩, by decide, by decide⟩

/-- Each of the three causes (ErrorsArePrecise), with the cycle without the write. -/
theorem witness_ErrorsArePrecise :
    (raisesError (writeIn 0x35#6 1#16) (ksAt 3 false) ∧
      cycle idleIn (ksAt 3 false) = .next (stateOf (cycle idleIn (ksAt 3 false)))) ∧
    (raisesError (writeIn addrCmd 0x0005#16) State.reset ∧ cycle idleIn State.reset = .next State.reset) ∧
    (raisesError (writeIn addrCmd 0x0002#16) almostScheduled ∧ cycle idleIn almostScheduled = .next almostScheduled) :=
  ⟨⟨⟨_, _, rfl, by decide, .inl (by decide)⟩, rfl⟩, ⟨⟨_, _, rfl, by decide, .inr ⟨rfl, .inl (by decide)⟩⟩, rfl⟩,
    ⟨⟨_, _, rfl, by decide, .inr ⟨rfl, .inr ⟨rfl, by decide⟩⟩⟩, rfl⟩⟩

/-- The first, the last but one and the last key-schedule cycle, and the last of ENCRYPT_COMBINED. -/
theorem witness_KeyScheduleCycle :
    ((ksAt 0 false).phase = 1#2 ∧ (ksAt 0 false).cnt.toNat = (0 : Fin 22).val ∧ (0 : Fin 3).val = (0 : Fin 22).val % 3) ∧
    ((ksAt 20 false).phase = 1#2 ∧ (ksAt 20 false).cnt.toNat = (20 : Fin 22).val ∧ (2 : Fin 3).val = (20 : Fin 22).val % 3) ∧
    ((ksAt 21 true).phase = 1#2 ∧ (ksAt 21 true).cnt.toNat = (21 : Fin 22).val ∧ (0 : Fin 3).val = (21 : Fin 22).val % 3) := by decide

theorem witness_EncryptionCycle : ((encAt 20).phase = 2#2 ∧ (encAt 20).cnt.toNat = (20 : Fin 22).val ∧ (20 : Fin 22).val < 21) ∧
    ((encAt 21).phase = 2#2 ∧ (encAt 21).cnt.toNat = (21 : Fin 22).val ∧ (21 : Fin 22).val = 21) := by decide

/-- Cycles without reset of any length, a rejected write and a read among them. -/
theorem witness_noReset : noReset [] ∧ noReset (writeIn 0x02#6 1#16 :: readIn 0x20#6 :: List.replicate 20 idleIn) ∧
    (writeIn 0x02#6 1#16 :: readIn 0x20#6 :: List.replicate 20 idleIn).length = 22 := by
  refine ⟨by simp [noReset], by simp [noReset, writeIn, readIn, idleIn], by decide⟩

/-- ExpandBuildsTheSchedule: after no cycle, 21 and 22 cycles. -/
theorem witness_ExpandBuildsTheSchedule :
    State.reset.phase = phaseIdle ∧ exec .expand State.reset = .next (acceptExpand State.reset) ∧
    (noReset [] ∧ ([] : List CycleIn).length < 22) ∧
    (noReset (List.replicate 21 idleIn) ∧ (List.replicate 21 idleIn).length < 22) ∧
    (noReset (List.replicate 22 idleIn) ∧ (List.replicate 22 idleIn).length = 22) := by
  refine ⟨by decide, rfl, ⟨by simp [noReset], by decide⟩, ⟨by simp [noReset, idleIn], by decide⟩, by simp [noReset, idleIn], by decide⟩

theorem witness_EncryptProducesTheCiphertext :
    scheduled.phase = phaseIdle ∧ scheduled.rkv = 0x3FFFFF#22 ∧ exec .encrypt scheduled = .next (acceptEncrypt scheduled) ∧
    (noReset (List.replicate 21 idleIn) ∧ (List.replicate 21 idleIn).length < 22) ∧
    (noReset (List.replicate 22 idleIn) ∧ (List.replicate 22 idleIn).length = 22) := by
  refine ⟨by decide, by decide, rfl, ⟨by simp [noReset, idleIn], by decide⟩, by simp [noReset, idleIn], by decide⟩

/-- CombinedExpandsThenEncrypts: after 21, 22, 43 and 44 cycles. -/
theorem witness_CombinedExpandsThenEncrypts :
    State.reset.phase = phaseIdle ∧ exec .encryptCombined State.reset = .next (acceptCombined State.reset) ∧
    (∀ n, noReset (List.replicate n idleIn)) ∧
    (List.replicate 21 idleIn).length < 22 ∧ 22 ≤ (List.replicate 22 idleIn).length ∧ (List.replicate 43 idleIn).length < 44 ∧
    (List.replicate 44 idleIn).length = 44 := by
  refine ⟨by decide, rfl, fun n => by simp [noReset, idleIn], ?_⟩
  simp

theorem witness_CombinedEqualsExpandThenEncrypt : erred.phase = phaseIdle := by decide

/-- A program that goes on after the WAIT, for each command. -/
theorem witness_WaitTakesTheLatencyOfTheCommand : ∀ i : Instr,
    ({ scheduled with host := [.cycle (writeIn addrCmd (encode i)), .wait, .cycle rstIn] } : State).phase = phaseIdle ∧
    (i = .encrypt → schedValid { scheduled with host := [.cycle (writeIn addrCmd (encode i)), .wait, .cycle rstIn] } = true) := by
  intro i
  cases i <;> decide

/-- The invariant in an idle, a key-schedule and an encryption state. -/
theorem witness_Inv_ks : Inv (ksAt 21 true) := by constructor <;> decide
theorem witness_Inv_enc : Inv (encAt 0) := by constructor <;> decide
theorem witness_Inv_idle : Inv erred := by constructor <;> decide

theorem witness_EveryCommandEndsWithin44Cycles : Inv (ksAt 21 true) ∧ noReset (List.replicate 44 idleIn) ∧
    (List.replicate 44 idleIn).length = 44 := ⟨witness_Inv_ks, by simp [noReset, idleIn], by decide⟩

/-- StepKeepsInv, StepAnswersFromInv and, for the two engines' last cycles, the statements about every step. -/
theorem witness_StepKeepsInv : Inv (ksAt 21 true) ∧ step (ksAt 21 true) = .next (stateOf (step (ksAt 21 true))) :=
  ⟨witness_Inv_ks, rfl⟩

/-- The agreement with the cipher functions in key-schedule cycle 2 of the zero key, and in encryption cycle 21. -/
theorem witness_Progress_ks : Progress (ksAt 2 true) := by constructor <;> decide +kernel
theorem witness_Progress_enc : Progress (encAt 21) := by constructor <;> decide +kernel

theorem witness_StepKeepsProgress : Inv (encAt 0) ∧ Inv (ksAt 21 true) ∧ Progress (ksAt 2 true) ∧ Progress (encAt 21) ∧
    step (ksAt 2 true) = .next (stateOf (step (ksAt 2 true))) ∧ step (encAt 21) = .next (stateOf (step (encAt 21))) ∧
    Inv (ksAt 2 true) ∧ Inv (encAt 21) :=
  ⟨witness_Inv_enc, witness_Inv_ks, witness_Progress_ks, witness_Progress_enc, rfl, rfl, by constructor <;> decide,
    by constructor <;> decide⟩

/-- The two stops, at the least value of each, and no stop in a reset cycle. -/
theorem witness_StepStopsOnlyOnReservedSequencerValues :
    step { State.reset with phase := 3#2 } = .refused .phaseReserved ∧
    step { State.reset with phase := 1#2, cnt := 22#5 } = .refused .roundOutOfRange ∧
    step { State.reset with phase := 2#2, cnt := 22#5 } = .refused .roundOutOfRange ∧
    (hostInput { State.reset with phase := 3#2, host := [.cycle rstIn] }).rst = true := ⟨rfl, rfl, rfl, by decide⟩

/-- PhaseChangesOnlyAsTheSequencerTableSays and CntAndCombFollowTheRounds: a state of each phase, a reset, and each command. -/
theorem witness_sequencer_rules :
    (Inv (ksAt 21 true) ∧ (ksAt 21 true).phase = phaseKS ∧ (hostInput (ksAt 21 true)).rst = false ∧
      (ksAt 21 true).cnt.toNat = 21 ∧ (ksAt 20 false).cnt.toNat < 21) ∧
    (Inv (encAt 0) ∧ (encAt 0).phase = phaseENC ∧ step (encAt 0) = .next (stateOf (step (encAt 0)))) ∧
    (Inv erred ∧ erred.phase = phaseIdle ∧ (hostInput { erred with host := [.cycle rstIn] }).rst = true) ∧
    (∀ i, hostInput { erred with host := [.cycle (writeIn addrCmd (encode i))] } = writeIn addrCmd (encode i)) :=
  ⟨⟨witness_Inv_ks, by decide⟩, ⟨witness_Inv_enc, by decide, rfl⟩, ⟨witness_Inv_idle, by decide⟩, fun _ => rfl⟩

/-- RkvChangesOnlyByItsFourEvents: each event, at the first and the last entry, and a step with none of them. -/
theorem witness_RkvChangesOnlyByItsFourEvents :
    ((ksAt 21 false).phase = phaseKS ∧ step (ksAt 21 false) = .next (stateOf (step (ksAt 21 false)))) ∧
    (hostInput { State.reset with host := [.cycle (writeIn (rkAddr 0) 1#16)] } = writeIn (rkAddr 0) 1#16) ∧
    (hostInput { State.reset with host := [.cycle (writeIn (rkAddr 21) 1#16)] } = writeIn (rkAddr 21) 1#16) ∧
    (hostInput State.reset ≠ writeIn addrCmd (encode .expand) ∧ ∀ i : Fin 22, hostInput State.reset ≠ writeIn (rkAddr i) 1#16) := by
  refine ⟨⟨by decide, rfl⟩, rfl, rfl, by decide, by decide⟩

/-- RkEntriesHaveTwoWriters: an entry that a key-schedule cycle changes, and one that the host changes. -/
theorem witness_RkEntriesHaveTwoWriters :
    (step { ksAt 3 false with ksB := 9#16 } = .next (stateOf (step { ksAt 3 false with ksB := 9#16 })) ∧
      (stateOf (step { ksAt 3 false with ksB := 9#16 })).rk[(3 : Fin 22)] ≠ ({ ksAt 3 false with ksB := 9#16 } : State).rk[(3 : Fin 22)]) ∧
    (writing (rkAddr 21) 9#16 State.reset).rk[(21 : Fin 22)] ≠ State.reset.rk[(21 : Fin 22)] :=
  ⟨⟨rfl, by decide +kernel⟩, by decide⟩

/-- CtChangesOnlyAtCompletion: the completion cycle, another, and a reset. -/
theorem witness_CtChangesOnlyAtCompletion :
    ((encAt 21).phase = phaseENC ∧ (encAt 21).cnt = 21#5 ∧ step (encAt 21) = .next (stateOf (step (encAt 21)))) ∧
    ¬((encAt 20).phase = phaseENC ∧ (encAt 20).cnt = 21#5) ∧ (hostInput { encAt 21 with host := [.cycle rstIn] }).rst = true :=
  ⟨⟨by decide, by decide, rfl⟩, by decide, by decide⟩

/-- KeyAndPlaintextChangeOnlyByTheHost: each of the six registers changes in some step. -/
theorem witness_KeyAndPlaintextChangeOnlyByTheHost :
    (writing 0x02#6 1#16 State.reset).key0 ≠ 0#16 ∧ (writing 0x03#6 1#16 State.reset).key1 ≠ 0#16 ∧
    (writing 0x04#6 1#16 State.reset).key2 ≠ 0#16 ∧ (writing 0x05#6 1#16 State.reset).key3 ≠ 0#16 ∧
    (writing 0x06#6 1#16 State.reset).ptL ≠ 0#16 ∧ (writing 0x07#6 1#16 State.reset).ptR ≠ 0#16 := by decide

/-- ErrIsStickyAndTheFirstErrorWins: a clear, a first error, a second error and a step with neither. -/
theorem witness_ErrIsStickyAndTheFirstErrorWins :
    clearsError (hostInput { erred with host := [.cycle (writeIn addrCmd 0x0004#16)] }) erred ∧
    (raisesError (hostInput { State.reset with host := [.cycle (writeIn addrCmd 0x0005#16)] }) State.reset ∧ State.reset.err = false) ∧
    (raisesError (hostInput { erred with host := [.cycle (writeIn addrCmd 0x0005#16)] }) erred ∧ erred.err = true) ∧
    (¬ clearsError (hostInput erred) erred ∧ ¬ raisesError (hostInput erred) erred) := by
  refine ⟨⟨rfl, by decide⟩, ⟨⟨_, _, rfl, by decide, .inr ⟨rfl, .inl (by decide)⟩⟩, by decide⟩,
    ⟨⟨_, _, rfl, by decide, .inr ⟨rfl, .inl (by decide)⟩⟩, by decide⟩, ?_, ?_⟩
  · rintro ⟨h, -⟩; exact absurd h (by decide)
  · rintro ⟨a, v, h, -⟩; cases h

theorem witness_DutifulHostGetsNoBusyError : hostDutiful { encAt 21 with host := [.cycle (writeIn 0x01#6 1#16)] } = true ∧
    (encAt 21).err = false ∧ (encAt 21).errcode ≠ 1#4 ∧ hostDutiful { encAt 21 with host := [.cycle (writeIn 0x02#6 1#16)] } = false := by
  decide

/-- ReadMap and IdleWritesStoreRoundKeys: the first and the last entry; reserved addresses at the ends of their ranges (also
ReadOnlyAndReservedWritesAreIgnored). -/
theorem witness_addresses : (0x20#6).toNat = 0x20 + (0 : Fin 22).val ∧ (0x35#6).toNat = 0x20 + (21 : Fin 22).val ∧
    (0x10 ≤ (0x10#6).toNat ∧ (0x1F#6).toNat ≤ 0x1F) ∧ 0x36 ≤ (0x36#6).toNat ∧ 0x36 ≤ (0x3F#6).toNat ∧
    (0x08 ≤ (0x08#6).toNat ∧ (0x08#6).toNat ≤ 0x1F) := by decide

/-- ReadsHaveNoSideEffects, StatusLayout, ReadOnlyAndReservedWritesAreIgnored, IdleWritesStoreRoundKeys: busy and idle. -/
theorem witness_idle_and_busy_cycles :
    (State.reset.phase = phaseIdle ∧ cycle idleIn State.reset = .next State.reset) ∧
    ((ksAt 21 true).phase ≠ phaseIdle ∧ cycle idleIn (ksAt 21 true) = .next (stateOf (cycle idleIn (ksAt 21 true)))) :=
  ⟨⟨by decide, rfl⟩, by decide, rfl⟩

theorem witness_IdleWritesStoreKeyAndPlaintext : erred.phase = phaseIdle := by decide

/-- PartialScheduleIsReadable: entries below and at CNT. -/
theorem witness_PartialScheduleIsReadable : Inv (ksAt 2 true) ∧ Progress (ksAt 2 true) ∧ (ksAt 2 true).phase = phaseKS ∧
    (1 : Fin 22).val < (ksAt 2 true).cnt.toNat ∧ ¬ (2 : Fin 22).val < (ksAt 2 true).cnt.toNat :=
  ⟨by constructor <;> decide, witness_Progress_ks, by decide, by decide, by decide⟩

/-- ResetWorksFromEveryState, ReadsAfterReset and EncryptAfterResetIsRefused, from the reserved phase too. -/
theorem witness_reset_statements :
    (hostInput { State.reset with phase := 3#2, host := [.cycle rstIn] }).rst = true ∧
    step { State.reset with phase := 3#2, host := [.cycle rstIn] } = .next State.reset ∧
    (hostInput { ksAt 10 false with host := [.cycle ⟨true, .read 0x01#6⟩] }).rst = true := ⟨by decide, rfl, by decide⟩

theorem witness_StepRunsTheDecodedCommand :
    ({ encAt 3 with host := [.cycle (writeIn addrCmd 0x0004#16), .wait] } : State).host =
      .cycle (writeIn addrCmd 0x0004#16) :: [.wait] ∧ decode 0x0004#16 = .ok .clrerr := by decide

/-- HiddenContentsAreUnobservable: two states that differ in unwritten entries and in the working registers of no command. -/
theorem witness_HiddenContentsAreUnobservable :
    SameVisible State.reset { State.reset with rk := Vector.replicate 22 0xFFFF#16, ksB := 1#16, dpX := 2#16 } ∧
    Inv State.reset ∧ step State.reset = .next State.reset := by
  refine ⟨⟨by decide, by decide, by decide, by decide, by decide, by decide, by decide, ?_, by decide, rfl⟩, ?_, rfl⟩
  · rintro (h | ⟨h, -⟩)
    · exact absurd h (by decide)
    · exact absurd h (by decide)
  · constructor <;> decide

/-- StatusIsIndependentOfData: two states with different keys, whose hosts write different plaintexts. -/
theorem witness_StatusIsIndependentOfData :
    SameControl { State.reset with key0 := 1#16, host := [.cycle (writeIn 0x06#6 1#16), .wait] }
      { State.reset with key0 := 2#16, host := [.cycle (writeIn 0x06#6 2#16), .wait] } := by
  refine ⟨by decide, by decide, by decide, by decide, .cons ?_ (.cons rfl .nil)⟩
  exact ⟨rfl, rfl, fun h => absurd h (by decide)⟩

end Sys2Proof.Tests
end

/-! PROOFS, family 10 (the state). First the decoder read backwards, then what a step can do from a busy and from an idle state, then
the statements. -/

namespace Sys2Proof

/-- A command word is its two fields (30 R71). -/
theorem rsvdField_append_opField (v : Word) : rsvdField v ++ opField v = v :=
  BitVec.extractLsb'_append_extractLsb'

/-- The decoder names a command exactly on that command's word (30 R74, R76). -/
theorem decode_eq_ok {v : Word} {i : Instr} : decode v = .ok i ↔ v = encode i := by
  constructor
  · intro h
    unfold decode at h
    split at h
    · cases h
    · next hr =>
      split at h
      · next j hj =>
        cases h
        rw [← rsvdField_append_opField v, not_not.mp hr, opcodeCommand_eq_some.mp hj, encode]
      · cases h
  · rintro rfl
    cases i <;> rfl

/-- Different commands have different words (30 R74). -/
@[simp] theorem encode_inj {i j : Instr} : encode i = encode j ↔ i = j := by
  cases i <;> cases j <;> decide

end Sys2Proof

namespace Sys2Proof.Machine

/-! ## Addresses and masks -/

@[simp] theorem rkAddr_toNat (i : Fin 22) : (rkAddr i).toNat = 0x20 + i.val := rkIndex_eq_some.mp (rkIndex_rkAddr i)

/-- An address that names entry `i` is 0x20 + i (20 R51). -/
theorem eq_rkAddr_of_rkIndex {a : Addr} {i : Fin 22} (h : rkIndex a = some i) : a = rkAddr i :=
  BitVec.eq_of_toNat_eq ((rkIndex_eq_some.mp h).trans (rkAddr_toNat i).symm)

theorem rkAddr_injective {i j : Fin 22} (h : rkAddr i = rkAddr j) : i = j :=
  Option.some.inj ((rkIndex_rkAddr i).symm.trans ((congrArg rkIndex h).trans (rkIndex_rkAddr j)))

/-- The round-key entries lie above the other registers (20 R51). -/
@[simp] theorem rkAddr_ne_of_lt {b : Addr} (h : b.toNat < 0x20) (i : Fin 22) : rkAddr i ≠ b := by
  rintro rfl
  simp at h

@[simp] theorem inWset_rkAddr (i : Fin 22) : inWset (rkAddr i) = true := by simp [inWset]

/-- The mask with bit `i` set, as the statements write it. -/
theorem setRkv_eq (i : Fin 22) (m : BitVec 22) : setRkv i m = m ||| BitVec.ofNat 22 (2 ^ i.val) := by
  have : 1#22 <<< i.val = BitVec.ofNat 22 (2 ^ i.val) := by
    simp [← BitVec.toNat_inj, Nat.shiftLeft_eq]
  rw [setRkv, this]

/-- Setting bit `i` of the mask sets that bit and no other. -/
theorem getLsbD_setRkv (i j : Fin 22) (m : BitVec 22) :
    (setRkv i m).getLsbD j.val = (m.getLsbD j.val || decide (i = j)) := by
  rw [setRkv, ← BitVec.twoPow, BitVec.getLsbD_or, BitVec.getLsbD_twoPow]
  simp [Fin.ext_iff]

end Sys2Proof.Machine

namespace Sys2Proof.Machine

/-! ## What a step can do from a busy and from an idle state, and under reset -/

/-- Inputs without reset that write `v` to `a` are the statement `WR`. -/
theorem eq_writeIn {c : CycleIn} {a : Addr} {v : Word} (hr : c.rst = false) (ht : c.txn = .write a v) : c = writeIn a v := by
  cases c; cases hr; cases ht; rfl

@[simp] theorem writeIn_inj {a b : Addr} {v w : Word} : writeIn a v = writeIn b w ↔ a = b ∧ v = w := by simp [writeIn]

/-- A reset cycle gives the registers their reset values, and may return and draw a free word beside that. -/
theorem resetCycle_eq (x : Txn) (s : State) : ∃ r d, resetCycle x s = { resetRegisters s with rdata := r, draws := d } := by
  cases x <;> exact ⟨_, _, rfl⟩

theorem step_reset {s t : State} (hr : (hostInput s).rst = true) (h : step s = .next t) :
    ∃ r d, t = { resetRegisters (nextCycle (hostRest s) s) with rdata := r, draws := d } := by
  rw [step_eq, cycle, if_pos hr] at h
  cases h
  exact resetCycle_eq _ _

/-- From a busy state a step without reset is the engine step, with some read data and perhaps an error recorded beside it. -/
theorem step_busy {s t : State} (hr : (hostInput s).rst = false) (hp : s.phase ≠ phaseIdle) (h : step s = .next t) :
    ∃ w r e c, engineStep s = .next w ∧ t = { nextCycle (hostRest s) w with rdata := r, err := e, errcode := c } := by
  obtain ⟨hr', -⟩ | ⟨-, -, w, r, hw, rfl⟩ | ⟨-, -, -, w, hw, rfl⟩ | ⟨-, hp', -⟩ := step_cases h
  · simp [hr] at hr'
  · exact ⟨w, _, _, _, hw, rfl⟩
  · exact ⟨w, _, _, _, hw, rfl⟩
  · exact absurd hp' hp

/-- A write to the address of entry `i` while idle is the write of that entry (10 R30). -/
theorem idleWriteEffect_rkAddr (i : Fin 22) (v : Word) (s : State) : idleWriteEffect (rkAddr i) v s = writeRk i v s := by
  simp [idleWriteEffect, writeRegister]

/-- Everything a write to WSET does while idle (20 R57): the effect of a command, ILLEGAL_CMD, a round-key entry, or words of the key
and the plaintext only. -/
theorem idleWriteEffect_cases {a : Addr} (ha : inWset a = true) (v : Word) (s : State) :
    (a = addrCmd ∧ ∃ i, v = encode i ∧ idleWriteEffect a v s = idleEffect i s) ∨
    (a = addrCmd ∧ (∀ i, v ≠ encode i) ∧ idleWriteEffect a v s = raiseError .illegalCmd s) ∨
    (∃ i, a = rkAddr i ∧ idleWriteEffect a v s = writeRk i v s) ∨
    (a ≠ addrCmd ∧ (∀ i, a ≠ rkAddr i) ∧ ∃ k0 k1 k2 k3 l r,
      idleWriteEffect a v s = { s with key0 := k0, key1 := k1, key2 := k2, key3 := k3, ptL := l, ptR := r }) := by
  by_cases hc : a = addrCmd
  · subst hc
    by_cases hv : ∃ i, v = encode i
    · obtain ⟨i, rfl⟩ := hv
      exact .inl ⟨rfl, i, rfl, by simp [idleWriteEffect]⟩
    · refine .inr (.inl ⟨rfl, not_exists.mp hv, ?_⟩)
      rw [idleWriteEffect, if_pos rfl, idleWordEffect]
      split
      · next i hi => exact absurd ⟨i, decode_eq_ok.mp hi⟩ hv
      · rfl
  · by_cases hi : ∃ i, a = rkAddr i
    · obtain ⟨i, rfl⟩ := hi
      exact .inr (.inr (.inl ⟨i, rfl, idleWriteEffect_rkAddr i v s⟩))
    · refine .inr (.inr (.inr ⟨hc, not_exists.mp hi, ?_⟩))
      rw [idleWriteEffect, if_neg hc, if_pos ha]
      obtain h | h | h | h | h | h | ⟨i, hx, -⟩ | h := writeRegister_cases a v s
      any_goals exact ⟨_, _, _, _, _, _, h⟩
      exact absurd ⟨i, eq_rkAddr_of_rkIndex hx⟩ hi

/-- From an idle state a step without reset has one of five effects: none but on the read port, a command's, ILLEGAL_CMD, the write of
a round-key entry, or that of a key or plaintext word. -/
theorem step_idle {s t : State} (hr : (hostInput s).rst = false) (hp : s.phase = phaseIdle) (h : step s = .next t) :
    ((∀ a v, hostInput s = writeIn a v → inWset a = false) ∧ ∃ r, t = { nextCycle (hostRest s) s with rdata := r }) ∨
    (∃ i, hostInput s = writeIn addrCmd (encode i) ∧ t = idleEffect i (nextCycle (hostRest s) s)) ∨
    (∃ v, hostInput s = writeIn addrCmd v ∧ (∀ i, v ≠ encode i) ∧ t = raiseError .illegalCmd (nextCycle (hostRest s) s)) ∨
    (∃ i v, hostInput s = writeIn (rkAddr i) v ∧ t = writeRk i v (nextCycle (hostRest s) s)) ∨
    (∃ a v, hostInput s = writeIn a v ∧ a ≠ addrCmd ∧ (∀ i, a ≠ rkAddr i) ∧ ∃ k0 k1 k2 k3 l r,
      t = { nextCycle (hostRest s) s with key0 := k0, key1 := k1, key2 := k2, key3 := k3, ptL := l, ptR := r }) := by
  obtain ⟨hr', -⟩ | ⟨-, hn, w, r, hw, rfl⟩ | ⟨-, hp', -⟩ | ⟨-, -, a, v, hx, ha, rfl⟩ := step_cases h
  · simp [hr] at hr'
  · rw [engineStep_idle hp] at hw
    cases hw
    exact .inl ⟨fun a v hc => hn a v (by rw [hc]; rfl), r, rfl⟩
  · exact absurd hp hp'
  · have hc := eq_writeIn hr hx
    obtain ⟨rfl, i, rfl, e⟩ | ⟨rfl, hv, e⟩ | ⟨i, rfl, e⟩ | ⟨hne, hni, e⟩ :=
      idleWriteEffect_cases ha v (nextCycle (hostRest s) s)
    · exact .inr (.inl ⟨i, hc, e⟩)
    · exact .inr (.inr (.inl ⟨v, hc, hv, e⟩))
    · exact .inr (.inr (.inr (.inl ⟨i, v, hc, e⟩)))
    · exact .inr (.inr (.inr (.inr ⟨a, v, hc, hne, hni, e⟩)))

end Sys2Proof.Machine

namespace Sys2Proof.Machine

/-! ## Hidden contents (10 R47): every operation takes two states that look alike to two states that look alike -/

namespace SameVisible

variable {s t : State}

theorem busy (h : SameVisible s t) : busy s = busy t := by
  simp [Machine.busy, h.sequencer]

theorem statusWord (h : SameVisible s t) : statusWord s = statusWord t := by
  simp [Machine.statusWord, Machine.busy, schedValid, h.sequencer, h.error, h.block, h.mask]

/-- A round-key entry is read only where it holds a written value (10 R29). -/
theorem rkRead (h : SameVisible s t) (i : Fin 22) : rkRead i s = rkRead i t := by
  have hw : rkWritten i s = rkWritten i t := by rw [rkWritten, rkWritten, h.mask]
  unfold Machine.rkRead
  rw [← hw]
  split
  · next hi => exact h.entries i hi
  · rfl

/-- Every address reads the same in both (20 R52). -/
theorem readValue (h : SameVisible s t) (a : Addr) : readValue a s = readValue a t := by
  obtain ⟨k0, k1, k2, k3⟩ := h.key
  obtain ⟨l, r, cl, cr, -⟩ := h.block
  simp only [Machine.readValue, rkvLo, rkvHi, h.statusWord, h.mask, h.rkRead, k0, k1, k2, k3, l, r, cl, cr]

/-! ### The named operations -/

theorem nextCycle (h : SameVisible s t) (hs : List HostOp) : SameVisible (nextCycle hs s) (nextCycle hs t) :=
  { h with port := ⟨rfl, h.port.2⟩, hosts := rfl }

theorem returnRead (h : SameVisible s t) (v : Word) : SameVisible (returnRead v s) (returnRead v t) :=
  { h with port := ⟨rfl, h.port.2⟩ }

theorem raiseError (h : SameVisible s t) (c : ErrCause) : SameVisible (raiseError c s) (raiseError c t) :=
  { h with error := ⟨rfl, by simp [h.error]⟩ }

theorem clearError (h : SameVisible s t) : SameVisible (clearError s) (clearError t) :=
  { h with error := ⟨rfl, rfl⟩ }

/-- A reset leaves no entry marked and no command running, so nothing that differs is in use. -/
theorem resetRegisters (h : SameVisible s t) : SameVisible (resetRegisters s) (resetRegisters t) where
  key := ⟨rfl, rfl, rfl, rfl⟩
  block := ⟨rfl, rfl, rfl, rfl, rfl⟩
  mask := rfl
  error := ⟨rfl, rfl⟩
  sequencer := ⟨rfl, rfl, rfl⟩
  entries i hi := by simp [rkWritten] at hi
  ks hp := by simp at hp
  dp hp := by simp [blockInUse] at hp
  port := h.port
  hosts := h.hosts

theorem resetCycle (h : SameVisible s t) (x : Txn) : SameVisible (resetCycle x s) (resetCycle x t) := by
  cases x with
  | noTxn => exact h.resetRegisters
  | read a =>
    have hd : s.draws = t.draws := h.port.2
    exact { h.resetRegisters with port := by simp [Machine.resetCycle, hd] }
  | write a v => exact h.resetRegisters

/-- An entry written alike in both files, with its bit set, leaves the marked entries equal. -/
theorem entries_set (h : SameVisible s t) (i : Fin 22) (v : Word) (j : Fin 22)
    (hj : (setRkv i s.rkv).getLsbD j.val = true) : (s.rk.set i v)[j] = (t.rk.set i v)[j] := by
  by_cases hij : i = j
  · simp [hij]
  · rw [getLsbD_setRkv, decide_eq_false hij, Bool.or_false] at hj
    have hne : i.val ≠ j.val := fun e => hij (Fin.ext e)
    simpa [Vector.getElem_set_ne _ _ hne] using h.entries j hj

theorem writeRk (h : SameVisible s t) (i : Fin 22) (v : Word) : SameVisible (writeRk i v s) (writeRk i v t) :=
  { h with
    mask := by simp [h.mask]
    entries := h.entries_set i v }

theorem writeRegister (h : SameVisible s t) (a : Addr) (v : Word) :
    SameVisible (writeRegister a v s) (writeRegister a v t) := by
  obtain ⟨k0, k1, k2, k3⟩ := h.key
  obtain ⟨l, r, c⟩ := h.block
  unfold Machine.writeRegister
  split; · exact { h with key := ⟨rfl, k1, k2, k3⟩ }
  split; · exact { h with key := ⟨k0, rfl, k2, k3⟩ }
  split; · exact { h with key := ⟨k0, k1, rfl, k3⟩ }
  split; · exact { h with key := ⟨k0, k1, k2, rfl⟩ }
  split; · exact { h with block := ⟨rfl, r, c⟩ }
  split; · exact { h with block := ⟨l, rfl, c⟩ }
  split
  · exact h.writeRk _ v
  · exact h

/-! ### The commands: an accepted one loads the working registers it starts to use -/

theorem acceptExpand (h : SameVisible s t) : SameVisible (acceptExpand s) (acceptExpand t) :=
  { h with
    mask := rfl
    sequencer := ⟨rfl, rfl, rfl⟩
    entries := fun i hi => by simp [Machine.acceptExpand, rkWritten] at hi
    ks := fun _ => by simp [Machine.acceptExpand, h.key]
    dp := fun hp => by simp [Machine.acceptExpand, blockInUse] at hp }

theorem acceptEncrypt (h : SameVisible s t) : SameVisible (acceptEncrypt s) (acceptEncrypt t) :=
  { h with
    block := by simp [Machine.acceptEncrypt, h.block]
    sequencer := ⟨rfl, rfl, rfl⟩
    ks := fun hp => by simp [Machine.acceptEncrypt] at hp
    dp := fun _ => by simp [Machine.acceptEncrypt, h.block] }

theorem acceptCombined (h : SameVisible s t) : SameVisible (acceptCombined s) (acceptCombined t) :=
  { h with
    block := by simp [Machine.acceptCombined, h.block]
    mask := rfl
    sequencer := ⟨rfl, rfl, rfl⟩
    entries := fun i hi => by simp [Machine.acceptCombined, rkWritten] at hi
    ks := fun _ => by simp [Machine.acceptCombined, h.key]
    dp := fun _ => by simp [Machine.acceptCombined, h.block] }

theorem idleEffect (h : SameVisible s t) (i : Instr) : SameVisible (idleEffect i s) (idleEffect i t) := by
  cases i with
  | nop => exact h
  | expand => exact h.acceptExpand
  | encrypt =>
    have hv : schedValid s = schedValid t := by rw [schedValid, schedValid, h.mask]
    simp only [Machine.idleEffect, ← hv]
    split
    · exact h.acceptEncrypt
    · exact h.raiseError _
  | encryptCombined => exact h.acceptCombined
  | clrerr => exact h.clearError

theorem idleWriteEffect (h : SameVisible s t) (a : Addr) (v : Word) :
    SameVisible (idleWriteEffect a v s) (idleWriteEffect a v t) := by
  unfold Machine.idleWriteEffect idleWordEffect
  split
  · split
    · exact h.idleEffect _
    · exact h.raiseError _
  · split
    · exact h.writeRegister a v
    · exact h

/-! ### The engines -/

/-- A key-schedule cycle reads KS_A and KS_B, which agree in its phase, and leaves the block registers alone. -/
theorem ksCycle (h : SameVisible s t) (hp : s.phase = phaseKS) (i : Fin 22) : SameVisible (ksCycle i s) (ksCycle i t) := by
  obtain ⟨hb, ha⟩ := h.ks hp
  obtain ⟨hph, hcnt, hcomb⟩ := h.sequencer
  refine { h with mask := ?_, sequencer := ?_, entries := ?_, ks := ?_, dp := ?_ }
  · simp [h.mask]
  · simp [hph, hcnt, hcomb]
  · intro j hj
    simpa [← hb] using h.entries_set i s.ksB j hj
  · intro _
    simp [ha, hb, hcnt]
  · intro hu
    refine h.dp (.inr ⟨hp, ?_⟩)
    by_contra hc
    simp only [blockInUse, ksCycle_phase, ksCycle_comb, hp, hc] at hu
    split at hu <;> simp at hu

/-- An encryption cycle reads the block registers, which agree in its phase, and entries of a complete schedule. -/
theorem encCycle (h : SameVisible s t) (hp : s.phase = phaseENC) (hm : s.rkv = fullMask) (i : Fin 22) :
    SameVisible (encCycle i s) (encCycle i t) := by
  obtain ⟨hx, hy⟩ := h.dp (.inl hp)
  obtain ⟨hph, hcnt, hcomb⟩ := h.sequencer
  have hi : s.rk[i] = t.rk[i] := h.entries i (by
    rw [rkWritten, hm]
    exact (by decide : ∀ i : Fin 22, fullMask.getLsbD i.val = true) i)
  have hr : speckRound s.dpX s.dpY s.rk[i] = speckRound t.dpX t.dpY t.rk[i] := by rw [hx, hy, hi]
  refine { h with block := ?_, sequencer := ?_, ks := ?_, dp := ?_ }
  · simp only [encCycle_ptL, encCycle_ptR, encCycle_ctL, encCycle_ctR, encCycle_ctValid, hr, h.block, and_self]
  · simp [hph, hcnt, hcomb]
  · intro hk
    simp only [encCycle_phase, hp] at hk
    split at hk <;> simp at hk
  · intro _
    simp only [encCycle_dpX, encCycle_dpY, hr, and_self]

theorem engineStep (h : SameVisible s t) (hm : s.phase = phaseENC → s.rkv = fullMask) {u : State}
    (hu : engineStep s = .next u) : ∃ w, engineStep t = .next w ∧ SameVisible u w := by
  obtain ⟨hph, hcnt, -⟩ := h.sequencer
  obtain ⟨hp, rfl⟩ | ⟨hp, hc, rfl⟩ | ⟨hp, hc, rfl⟩ := engineStep_cases hu
  · exact ⟨t, engineStep_idle (hph ▸ hp), h⟩
  · refine ⟨Machine.ksCycle ⟨s.cnt.toNat, hc⟩ t, ?_, h.ksCycle hp _⟩
    rw [engineStep_ks (hph ▸ hp), atRound_next]
    exact ⟨hcnt ▸ hc, by simp only [hcnt]⟩
  · refine ⟨Machine.encCycle ⟨s.cnt.toNat, hc⟩ t, ?_, h.encCycle hp (hm hp) _⟩
    rw [engineStep_enc (hph ▸ hp), atRound_next]
    exact ⟨hcnt ▸ hc, by simp only [hcnt]⟩

/-! ### The cycle and the step -/

/-- An engine step followed by an operation that keeps the likeness. -/
theorem andThen (h : SameVisible s t) (hm : s.phase = phaseENC → s.rkv = fullMask) {f : State → State}
    (hf : ∀ {u w}, SameVisible u w → SameVisible (f u) (f w)) {s' : State}
    (hs : andThen (Machine.engineStep s) f = .next s') :
    ∃ t', Machine.andThen (Machine.engineStep t) f = .next t' ∧ SameVisible s' t' := by
  obtain ⟨u, hu, rfl⟩ := andThen_next.mp hs
  obtain ⟨w, hw, huw⟩ := h.engineStep hm hu
  exact ⟨f w, andThen_next.mpr ⟨w, hw, rfl⟩, hf huw⟩

theorem hostWrite (h : SameVisible s t) (hm : s.phase = phaseENC → s.rkv = fullMask) {a : Addr} {v : Word} {s' : State}
    (hs : hostWrite a v s = .next s') : ∃ t', Machine.hostWrite a v t = .next t' ∧ SameVisible s' t' := by
  have hph : s.phase = t.phase := h.sequencer.1
  by_cases hp : s.phase = phaseIdle
  · rw [hostWrite_idle hp] at hs
    cases hs
    exact ⟨_, hostWrite_idle (hph ▸ hp) a v, h.idleWriteEffect a v⟩
  · rw [hostWrite_busy hp] at hs
    rw [hostWrite_busy (hph ▸ hp)]
    by_cases ha : inWset a = true
    · rw [if_pos ha] at hs ⊢
      exact h.andThen hm (fun huw => huw.raiseError _) hs
    · rw [if_neg ha] at hs ⊢
      exact h.engineStep hm hs

theorem cycle (h : SameVisible s t) (hm : s.phase = phaseENC → s.rkv = fullMask) {c : CycleIn} {s' : State}
    (hs : cycle c s = .next s') : ∃ t', Machine.cycle c t = .next t' ∧ SameVisible s' t' := by
  obtain ⟨rst, txn⟩ := c
  cases rst with
  | true =>
    cases hs
    exact ⟨_, rfl, h.resetCycle txn⟩
  | false =>
    cases txn with
    | noTxn => exact h.engineStep hm hs
    | read a =>
      have hr := h.andThen hm (fun huw => huw.returnRead (Machine.readValue a s)) hs
      rw [h.readValue a] at hr
      exact hr
    | write a v => exact h.hostWrite hm hs

theorem hostInput (h : SameVisible s t) : hostInput s = hostInput t := by
  rw [Machine.hostInput, Machine.hostInput, h.hosts]

theorem hostRest (h : SameVisible s t) : hostRest s = hostRest t := by
  rw [Machine.hostRest, Machine.hostRest, h.hosts, h.busy]

theorem step (h : SameVisible s t) (hi : Inv s) {s' : State} (hs : step s = .next s') :
    ∃ t', Machine.step t = .next t' ∧ SameVisible s' t' := by
  rw [step_eq] at hs
  rw [step_eq, ← h.hostInput, ← h.hostRest]
  exact (h.nextCycle _).cycle hi.encMask hs

end SameVisible

/-- Settles O56: each operation of a cycle keeps the likeness, because it reads hidden contents only where they agree. -/
theorem hiddenContentsAreUnobservable : Obligations.HiddenContentsAreUnobservable :=
  fun _ _ h => ⟨h.readValue, fun _ hi hs => h.step hi hs⟩

end Sys2Proof.Machine

namespace Sys2Proof.Machine

/-! ## The sequencer's CNT and COMB (10 R41, R42) -/

variable {s t w : State}

/-- A running engine before its last round counts one on, in the same phase and for the same command. -/
theorem engineStep_counts (hp : s.phase ≠ phaseIdle) (hc : s.cnt.toNat < 21) (hw : engineStep s = .next w) :
    w.phase = s.phase ∧ w.cnt = s.cnt + 1#5 ∧ w.comb = s.comb := by
  obtain ⟨hp', -⟩ | ⟨-, _, rfl⟩ | ⟨-, _, rfl⟩ := engineStep_cases hw
  · exact absurd hp' hp
  · simp [hc.ne]
  · simp [hc.ne]

/-- The last round of an engine returns CNT to 0; COMB stays only where the encryption phase follows. -/
theorem engineStep_last_round (hp : s.phase ≠ phaseIdle) (hc : s.cnt.toNat = 21) (hw : engineStep s = .next w) :
    w.cnt = 0#5 ∧ (w.comb = true ↔ s.phase = phaseKS ∧ s.comb = true) ∧ (w.phase = phaseIdle → w.comb = false) := by
  obtain ⟨hp', -⟩ | ⟨hk, _, rfl⟩ | ⟨he, _, rfl⟩ := engineStep_cases hw
  · exact absurd hp' hp
  · simp [hc, hk]
  · simp [hc, he]

theorem idleEffect_cnt (i : Instr) (h : s.cnt = 0#5) : (idleEffect i s).cnt = 0#5 := by
  cases i with
  | encrypt =>
    rw [idleEffect]
    split
    · rfl
    · exact h
  | expand | encryptCombined => rfl
  | nop | clrerr => exact h

/-- Only ENCRYPT_COMBINED sets COMB, and it starts the key-schedule phase (43 R150). -/
theorem idleEffect_comb (i : Instr) (h : s.comb = false) :
    ((idleEffect i s).comb = true ↔ i = .encryptCombined) ∧ ((idleEffect i s).phase = phaseIdle → (idleEffect i s).comb = false) := by
  cases i with
  | encrypt =>
    rw [idleEffect]
    split
    · simp [acceptEncrypt]
    · simp [h]
  | expand => simp [idleEffect, acceptExpand]
  | encryptCombined => simp [idleEffect, acceptCombined]
  | nop => simp [idleEffect, h]
  | clrerr => simp [idleEffect, h]

/-- A step from an idle state with CNT and COMB 0: CNT stays 0, and COMB becomes 1 exactly for ENCRYPT_COMBINED. -/
theorem step_idle_cnt_comb (hr : (hostInput s).rst = false) (hp : s.phase = phaseIdle) (hcnt : s.cnt = 0#5)
    (hcomb : s.comb = false) (h : step s = .next t) :
    t.cnt = 0#5 ∧ (t.comb = true ↔ hostInput s = writeIn addrCmd (encode .encryptCombined)) ∧
      (t.phase = phaseIdle → t.comb = false) := by
  obtain ⟨hn, r, rfl⟩ | ⟨i, hc, rfl⟩ | ⟨v, hc, hv, rfl⟩ | ⟨i, v, hc, rfl⟩ | ⟨a, v, hc, ha, -, k0, k1, k2, k3, l, r, rfl⟩ :=
    step_idle hr hp h
  · have hne : hostInput s ≠ writeIn addrCmd (encode .encryptCombined) := fun e => by simpa using hn _ _ e
    simp only [nextCycle_cnt, nextCycle_comb, hcnt, hcomb, hne]
    simp
  · obtain ⟨hset, hidle⟩ := idleEffect_comb (s := nextCycle (hostRest s) s) i hcomb
    refine ⟨idleEffect_cnt i hcnt, ?_, hidle⟩
    rw [hset, hc, writeIn_inj, encode_inj]
    simp
  · have hne : v ≠ encode .encryptCombined := hv _
    simp only [hc, writeIn_inj, hne, raiseError_cnt, raiseError_comb, nextCycle_cnt, nextCycle_comb, hcnt, hcomb]
    simp
  · simp [hc, hcnt, hcomb]
  · simp [hc, ha, hcnt, hcomb]

/-- Settles O35: a reset, the rounds of a running engine before the last, the last round, and the idle step. -/
theorem cntAndCombFollowTheRounds : Obligations.CntAndCombFollowTheRounds := by
  intro s t hi h
  cases hr : (hostInput s).rst with
  | true =>
    obtain ⟨r, d, rfl⟩ := step_reset hr h
    simp
  | false =>
    by_cases hp : s.phase = phaseIdle
    · obtain ⟨hcnt, hset, hidle⟩ := step_idle_cnt_comb hr hp (hi.idleCnt hp) (hi.idleComb hp) h
      refine ⟨by simp [hcnt], fun ht => ⟨hcnt, hidle ht⟩, by simp, fun _ hb => absurd hp hb, fun _ _ => ⟨hcnt, hset⟩⟩
    · obtain ⟨w, r, e, c, hw, rfl⟩ := step_busy hr hp h
      simp only [nextCycle_cnt, nextCycle_comb, nextCycle_phase]
      have hlegal := hi.cntLegal
      by_cases hc : s.cnt.toNat = 21
      · obtain ⟨hcnt, hset, hidle⟩ := engineStep_last_round hp hc hw
        refine ⟨by simp [hcnt], fun ht => ⟨hcnt, hidle ht⟩, by simp, fun _ _ => ⟨fun hlt => ?_, fun _ => ⟨hcnt, hset⟩⟩,
          fun _ hb => absurd hb hp⟩
        omega
      · have hlt : s.cnt.toNat < 21 := by omega
        obtain ⟨hph, hcnt, hcomb⟩ := engineStep_counts hp hlt hw
        refine ⟨?_, fun ht => absurd (hph ▸ ht) hp, by simp, fun _ _ => ⟨fun _ => ⟨hcnt, hcomb⟩, fun h21 => absurd h21 hc⟩,
          fun _ hb => absurd hb hp⟩
        rw [hcnt, BitVec.toNat_add]
        simp
        omega

/-! ## The mask of written entries (10 R28) -/

theorem engineStep_rkv_ks (hp : s.phase = phaseKS) (hw : engineStep s = .next w) :
    w.rkv = s.rkv ||| BitVec.ofNat 22 (2 ^ s.cnt.toNat) := by
  rw [engineStep_ks hp, atRound_next] at hw
  obtain ⟨hc, rfl⟩ := hw
  exact setRkv_eq _ _

theorem engineStep_rkv_enc (hp : s.phase = phaseENC) (hw : engineStep s = .next w) : w.rkv = s.rkv := by
  rw [engineStep_enc hp, atRound_next] at hw
  obtain ⟨hc, rfl⟩ := hw
  rfl

/-- Of the commands only the two that build a schedule clear the mask (41 R116, 43 R150). -/
theorem idleEffect_rkv (i : Instr) (s : State) :
    (idleEffect i s).rkv = if i = .expand ∨ i = .encryptCombined then 0#22 else s.rkv := by
  cases i with
  | encrypt =>
    rw [idleEffect]
    split <;> rfl
  | nop | expand | encryptCombined | clrerr => rfl

/-- The mask after a step from an idle state. -/
theorem step_idle_rkv (hr : (hostInput s).rst = false) (hp : s.phase = phaseIdle) (h : step s = .next t) :
    (hostInput s = writeIn addrCmd (encode .expand) ∨ hostInput s = writeIn addrCmd (encode .encryptCombined) →
      t.rkv = 0#22) ∧
    (∀ (i : Fin 22) v, hostInput s = writeIn (rkAddr i) v → t.rkv = s.rkv ||| BitVec.ofNat 22 (2 ^ i.val)) ∧
    (hostInput s ≠ writeIn addrCmd (encode .expand) → hostInput s ≠ writeIn addrCmd (encode .encryptCombined) →
      (∀ (i : Fin 22) v, hostInput s ≠ writeIn (rkAddr i) v) → t.rkv = s.rkv) := by
  obtain ⟨hn, r, rfl⟩ | ⟨i, hc, rfl⟩ | ⟨v, hc, hv, rfl⟩ | ⟨i, v, hc, rfl⟩ | ⟨a, v, hc, ha, hni, k0, k1, k2, k3, l, r, rfl⟩ :=
    step_idle hr hp h
  · refine ⟨?_, fun i v e => ?_, fun _ _ _ => rfl⟩
    · rintro (e | e) <;> simpa using hn _ _ e
    · simpa using hn _ _ e
  · rw [idleEffect_rkv]
    simp only [hc, ne_eq, writeIn_inj, encode_inj, true_and]
    refine ⟨fun hi => if_pos hi, fun j v e => absurd e.1.symm (by simp), fun h1 h2 _ => ?_⟩
    exact if_neg (not_or.mpr ⟨h1, h2⟩)
  · simp only [hc, ne_eq, writeIn_inj, true_and]
    refine ⟨?_, fun j w e => absurd e.1.symm (by simp), fun _ _ _ => rfl⟩
    rintro (e | e) <;> exact absurd e (hv _)
  · simp only [hc, ne_eq, writeIn_inj]
    refine ⟨?_, fun j w e => ?_, fun _ _ hno => absurd ⟨rfl, rfl⟩ (hno i v)⟩
    · rintro (⟨e, -⟩ | ⟨e, -⟩) <;> exact absurd e (by simp)
    · rw [rkAddr_injective e.1.symm]
      exact setRkv_eq i s.rkv
  · simp only [hc, ne_eq, writeIn_inj, ha, false_and, or_self, false_implies, true_and]
    exact ⟨fun j w e => absurd e.1 (hni j), fun _ _ _ => rfl⟩

/-- Settles O36: the two views are reads by definition; a step is a reset, an engine step or an idle step. -/
theorem rkvChangesOnlyByItsFourEvents : Obligations.RkvChangesOnlyByItsFourEvents := by
  refine ⟨fun s => ⟨rfl, rfl⟩, fun s t h => ⟨fun hr => ?_, fun hr => ⟨fun hp => ?_, fun hp => ?_, fun hp => ?_⟩⟩⟩
  · obtain ⟨r, d, rfl⟩ := step_reset hr h
    rfl
  · obtain ⟨w, r, e, c, hw, rfl⟩ := step_busy hr (by simp [hp]) h
    exact (engineStep_rkv_ks hp hw :)
  · obtain ⟨w, r, e, c, hw, rfl⟩ := step_busy hr (by simp [hp]) h
    exact (engineStep_rkv_enc hp hw :)
  · exact step_idle_rkv hr hp h

end Sys2Proof.Machine

namespace Sys2Proof.Machine

/-! ## STATUS, the round-key addresses and the reads after reset (10 R32, R30, R46) -/

/-- A write outside WSET is a cycle without it (20 R53). -/
theorem cycle_writeIn_of_not_inWset {a : Addr} (ha : inWset a = false) (v : Word) (s : State) :
    cycle (writeIn a v) s = cycle idleIn s := by
  have hne : a ≠ addrCmd := by rintro rfl; simp at ha
  simp [cycle, writeIn, idleIn, hostWrite, hne, ha]

/-- A write to WSET while busy is the cycle without it and the BUSY error, recorded only when none was (60 R173, R174). -/
theorem cycle_writeIn_busy {s u : State} {a : Addr} (ha : inWset a = true) (hp : s.phase ≠ phaseIdle) (v : Word)
    (hu : cycle idleIn s = .next u) :
    cycle (writeIn a v) s = .next { u with err := true, errcode := if s.err then s.errcode else 1#4 } := by
  have hu : engineStep s = .next u := hu
  obtain ⟨-, -, -, -, -, -, he, hc, -⟩ := engineStep_keeps hu
  calc cycle (writeIn a v) s = hostWrite a v s := rfl
    _ = .next (raiseError .busy u) := by rw [hostWrite_busy hp, if_pos ha, rejectBusy, hu, andThen_of_next]
    _ = _ := by rw [raiseError, he, hc]; rfl

/-- The bits of STATUS, field by field from bit 0 up (10 R32). -/
theorem getLsbD_statusWord (s : State) (k : Nat) : (statusWord s).getLsbD k =
    if k < 1 then (BitVec.ofBool (busy s)).getLsbD k
    else if k - 1 < 1 then (BitVec.ofBool (schedValid s)).getLsbD (k - 1)
    else if k - 2 < 1 then (BitVec.ofBool s.ctValid).getLsbD (k - 2)
    else if k - 3 < 1 then (BitVec.ofBool s.err).getLsbD (k - 3)
    else if k - 4 < 4 then s.errcode.getLsbD (k - 4)
    else if k - 8 < 2 then s.phase.getLsbD (k - 8)
    else if k - 10 < 1 then (BitVec.ofBool s.comb).getLsbD (k - 10)
    else s.cnt.getLsbD (k - 11) := by
  change BitVec.getLsbD (w := 5 + 1 + 2 + 4 + 1 + 1 + 1 + 1) _ k = _
  simp only [statusWord, BitVec.getLsbD_append, Nat.sub_sub]

/-- A slice of STATUS is a slice of the concatenation, whose width is the sum of the fields' widths. -/
theorem extractLsb'_statusWord (s : State) (i n : Nat) : (statusWord s).extractLsb' i n =
    BitVec.extractLsb' (n := 5 + 1 + 2 + 4 + 1 + 1 + 1 + 1) i n
      (s.cnt ++ BitVec.ofBool s.comb ++ s.phase ++ s.errcode ++ BitVec.ofBool s.err ++ BitVec.ofBool s.ctValid
        ++ BitVec.ofBool (schedValid s) ++ BitVec.ofBool (busy s)) := rfl

/-- Settles O42: STATUS is the concatenation of its fields, and each is read back from its bits. -/
theorem statusLayout : Obligations.StatusLayout := by
  refine ⟨by decide, fun s => ⟨rfl, fun u v hu => ?_, ?_, ?_, ?_, ?_, ?_, ?_, ?_, ?_, ?_⟩⟩
  · rw [cycle_writeIn_of_not_inWset (by decide), hu]
  · rw [getLsbD_statusWord]; simp [busy]
  · rw [getLsbD_statusWord]; simp [schedValid]
  · rw [getLsbD_statusWord]; simp
  · rw [getLsbD_statusWord]; simp
  · rw [extractLsb'_statusWord]
    iterate 4 rw [BitVec.extractLsb'_append_eq_of_le (by decide)]
    exact BitVec.extractLsb'_append_eq_right
  · rw [extractLsb'_statusWord]
    iterate 5 rw [BitVec.extractLsb'_append_eq_of_le (by decide)]
    exact BitVec.extractLsb'_append_eq_right
  · rw [getLsbD_statusWord]; simp
  · rw [extractLsb'_statusWord]
    iterate 7 rw [BitVec.extractLsb'_append_eq_of_le (by decide)]
    exact BitVec.extractLsb'_eq_self
  · have hb : busy s = decide (s.phase ≠ 0#2) := by rw [Bool.eq_iff_iff, busy_eq_true, decide_eq_true_iff]
    have hv : schedValid s = decide (s.rkv = 0x3FFFFF#22) := rfl
    rw [statusWord, hb, hv]

/-- Reading a round-key address reads its entry (20 R52). -/
theorem readValue_rkAddr (i : Fin 22) (s : State) : readValue (rkAddr i) s = rkRead i s := by
  simp [readValue]

/-- An entry reads back the word just written to it. -/
theorem rkRead_writeRk (i : Fin 22) (v : Word) (s : State) : rkRead i (writeRk i v s) = v := by
  have hw : rkWritten i (writeRk i v s) = true := by
    rw [rkWritten, writeRk_rkv, getLsbD_setRkv, decide_eq_true rfl, Bool.or_true]
  rw [rkRead, if_pos hw]
  simp

/-- Settles O46: the write is `writeRk` while idle, and a rejected write while busy. -/
theorem idleWritesStoreRoundKeys : Obligations.IdleWritesStoreRoundKeys := by
  intro s i a v ha
  obtain rfl : a = rkAddr i := eq_rkAddr_of_rkIndex (rkIndex_eq_some.mpr ha)
  have hs : { s with rk := s.rk.set i v, rkv := s.rkv ||| BitVec.ofNat 22 (2 ^ i.val) } = writeRk i v s := by
    rw [writeRk, setRkv_eq]
  rw [hs]
  refine ⟨fun hp => ⟨?_, ?_⟩, fun u hp hu => cycle_writeIn_busy (inWset_rkAddr i) hp v hu⟩
  · rw [← idleWriteEffect_rkAddr]
    exact hostWrite_idle hp _ v
  · rw [readValue_rkAddr, rkRead_writeRk]

/-- With no entry marked, a round-key address reads 0 whatever the file holds (10 R29). -/
theorem rkRead_of_rkv_zero {s : State} (h : s.rkv = 0#22) (i : Fin 22) : rkRead i s = 0x0000#16 := by
  simp [rkRead, rkWritten, h]

theorem statusWord_resetRegisters (s : State) : statusWord (resetRegisters s) = 0x0000#16 := by
  simp only [statusWord, schedValid, busy, resetRegisters_cnt, resetRegisters_comb, resetRegisters_phase,
    resetRegisters_errcode, resetRegisters_err, resetRegisters_ctValid, resetRegisters_rkv]
  decide

/-- After a reset every address but those of the two constants reads 0, whatever the hidden contents are. -/
theorem readValue_resetRegisters (s : State) {a : Addr} (hE : a.toNat ≠ 0x0E) (hF : a.toNat ≠ 0x0F) :
    readValue a (resetRegisters s) = 0x0000#16 := by
  have hE : a ≠ 0x0E#6 := by rintro rfl; exact hE rfl
  have hF : a ≠ 0x0F#6 := by rintro rfl; exact hF rfl
  simp only [readValue, statusWord_resetRegisters, rkvLo, rkvHi, resetRegisters_key0, resetRegisters_key1,
    resetRegisters_key2, resetRegisters_key3, resetRegisters_ptL, resetRegisters_ptR, resetRegisters_ctL,
    resetRegisters_ctR, resetRegisters_rkv, hE, hF, if_false]
  cases rkIndex a with
  | none => simp
  | some i => simp [rkRead_of_rkv_zero (resetRegisters_rkv s)]

/-- Settles O50: both kinds of state are a reset's registers with some port. -/
theorem readsAfterReset : Obligations.ReadsAfterReset := by
  intro t ht
  have hreset : ∃ s r d, t = { resetRegisters s with rdata := r, draws := d } := by
    obtain rfl | ⟨s, hr, h⟩ := ht
    · exact ⟨State.reset, none, 0, rfl⟩
    · exact ⟨_, step_reset hr h⟩
  obtain ⟨s, r, d, rfl⟩ := hreset
  have hz {a : Addr} : a.toNat ≠ 0x0E → a.toNat ≠ 0x0F →
      readValue a { resetRegisters s with rdata := r, draws := d } = 0x0000#16 := readValue_resetRegisters s
  exact ⟨hz (by decide) (by decide), rfl, rfl, fun _ => hz⟩

end Sys2Proof.Machine

/-! PROOFS, family 20 (the register space). First what the addresses name and what a cycle with a read does, then the statements. -/

namespace Sys2Proof.Machine

/-! ## The address map (20 R51 to R54) -/

/-- An address names no round-key entry exactly outside 0x20 to 0x35 (20 R51). -/
theorem rkIndex_eq_none {a : Addr} : rkIndex a = none ↔ a.toNat < 0x20 ∨ 0x35 < a.toNat := by
  simp only [rkIndex, dite_eq_right_iff, reduceCtorEq, imp_false]
  omega

/-- The writable addresses as ranges (20 R51). -/
theorem inWset_eq_true {a : Addr} :
    inWset a = true ↔ a.toNat = 0x00 ∨ (0x02 ≤ a.toNat ∧ a.toNat ≤ 0x07) ∨ (0x20 ≤ a.toNat ∧ a.toNat ≤ 0x35) := by
  have hc : a = addrCmd ↔ a.toNat = 0x00 := by rw [← BitVec.toNat_inj]; rfl
  have hrk : (rkIndex a).isSome = true ↔ 0x20 ≤ a.toNat ∧ a.toNat ≤ 0x35 := by
    rw [← Option.ne_none_iff_isSome, ne_eq, rkIndex_eq_none]
    omega
  simp only [inWset, Bool.or_eq_true, Bool.and_eq_true, beq_iff_eq, decide_eq_true_eq, hc, hrk, or_assoc]

/-- CMD and the reserved addresses read 0: they name no register and no entry (20 R52). -/
theorem readValue_eq_zero {a : Addr} (s : State)
    (h : a.toNat = 0 ∨ a.toNat = 0x0C ∨ a.toNat = 0x0D ∨ (0x10 ≤ a.toNat ∧ a.toNat ≤ 0x1F) ∨ 0x36 ≤ a.toNat) :
    readValue a s = 0x0000#16 := by
  have hrk : rkIndex a = none := rkIndex_eq_none.mpr (by omega)
  have hne {b : Addr} (hb : b.toNat < 0x10 ∧ b.toNat ≠ 0 ∧ b.toNat ≠ 0x0C ∧ b.toNat ≠ 0x0D) : a ≠ b := by
    rintro rfl
    omega
  simp [readValue, hne, hrk]

theorem toNat_rkvLo (s : State) : (rkvLo s).toNat = s.rkv.toNat % 65536 := by
  simp [rkvLo]

/-- The six mask bits above RKV_LO fit RKV_HI with room, so their extension loses nothing. -/
theorem toNat_rkvHi (s : State) : (rkvHi s).toNat = s.rkv.toNat / 65536 := by
  have := s.rkv.isLt
  rw [rkvHi, BitVec.toNat_setWidth, BitVec.extractLsb'_toNat, Nat.shiftRight_eq_div_pow]
  omega

/-- Settles O43: the named registers by definition, the mask's two halves as numbers, the entries, and the addresses of nothing. -/
theorem readMap : Obligations.ReadMap := by
  intro s
  refine ⟨rfl, rfl, rfl, rfl, rfl, rfl, rfl, rfl, rfl, toNat_rkvLo s, toNat_rkvHi s, rfl, rfl, fun a i ha => ?_,
    fun a => readValue_eq_zero s⟩
  obtain rfl : a = rkAddr i := eq_rkAddr_of_rkIndex (rkIndex_eq_some.mpr ha)
  exact readValue_rkAddr i s

/-! ## Cycles with a read, and with a write outside WSET (20 R53, R54) -/

/-- A read's cycle is the cycle without it, with the value before the edge returned beside (20 R54, R56). -/
theorem cycle_readIn (a : Addr) (s : State) :
    cycle (readIn a) s = andThen (cycle idleIn s) (returnRead (readValue a s)) := rfl

/-- No address reads the read port. -/
theorem readValue_returnRead (a : Addr) (v : Word) (s : State) :
    readValue a (returnRead v s) = readValue a s := rfl

/-- Settles O44: the read only fills the port, which no address shows, and while idle the engine stands still. -/
theorem readsHaveNoSideEffects : Obligations.ReadsHaveNoSideEffects := by
  intro s u a hu
  refine ⟨by rw [cycle_readIn, hu, andThen_of_next, returnRead], fun hp b => ?_⟩
  obtain rfl : s = u := Host.Outcome.next.inj ((engineStep_idle hp).symm.trans hu)
  exact readValue_returnRead b (readValue a s) s

/-- Settles O47: the addresses lie outside WSET, where a write is a cycle without it. -/
theorem readOnlyAndReservedWritesAreIgnored : Obligations.ReadOnlyAndReservedWritesAreIgnored := by
  intro s u a v ha hu
  have hw : inWset a = false := by
    rw [← Bool.not_eq_true, inWset_eq_true]
    omega
  exact ⟨by rw [cycle_writeIn_of_not_inWset hw, hu], fun hr => readValue_eq_zero s (.inr hr)⟩

end Sys2Proof.Machine

/-! PROOFS, family 30 (the encoding). First which words name no command and what writing one does while idle, then the statements. -/

namespace Sys2Proof

/-! ## The words that name no command (30 R75) -/

/-- The decoder rejects exactly the words that encode no command (30 R76). -/
theorem decode_eq_error {v : Word} : (∃ e, decode v = .error e) ↔ ∀ i, v ≠ encode i := by
  simp only [ne_eq, ← decode_eq_ok]
  cases decode v <;> simp

/-- The command words are the five least words (30 R74). -/
theorem exists_eq_encode {v : Word} : (∃ i, v = encode i) ↔ v.toNat ≤ 4 := by
  constructor
  · rintro ⟨i, rfl⟩
    cases i <;> decide
  · intro h
    have hv : v = BitVec.ofNat 16 v.toNat := by simp
    generalize v.toNat = n at h hv
    match n, h with
    | 0, _ => exact ⟨.nop, hv⟩
    | 1, _ => exact ⟨.expand, hv⟩
    | 2, _ => exact ⟨.encrypt, hv⟩
    | 3, _ => exact ⟨.encryptCombined, hv⟩
    | 4, _ => exact ⟨.clrerr, hv⟩

/-- A word encodes no command exactly when RSVD is not 0 or OP is 0x5 or more (30 R75). -/
theorem ne_encode_iff_reserved {v : Word} : (∀ i, v ≠ encode i) ↔ v.toNat / 16 ≠ 0 ∨ 5 ≤ v.toNat % 16 := by
  rw [← not_exists, exists_eq_encode]
  omega

/-- Settles O53: the decoder names a command exactly on its word, and rejects the words of none. -/
theorem decodeIsExactOnAllWords : Obligations.DecodeIsExactOnAllWords :=
  ⟨fun _ => decode_eq_ok.mpr rfl, fun _ => ⟨decode_eq_ok, decode_eq_ok, decode_eq_ok, decode_eq_ok, decode_eq_ok,
    decode_eq_error.trans ne_encode_iff_reserved⟩⟩

end Sys2Proof

namespace Sys2Proof.Machine

/-- While idle a word that encodes no command only raises ILLEGAL_CMD (30 R75). -/
theorem idleWordEffect_of_ne_encode {v : Word} (hv : ∀ i, v ≠ encode i) (s : State) :
    idleWordEffect v s = raiseError .illegalCmd s := by
  obtain ⟨e, he⟩ := decode_eq_error.mpr hv
  rw [idleWordEffect, he]

/-- Settles O17: such a word encodes no command; its write is ILLEGAL_CMD while idle, and a rejected write while busy. -/
theorem illegalWordsAreRecordedAndDropped : Obligations.IllegalWordsAreRecordedAndDropped := by
  intro s v hr
  have hv : ∀ i, v ≠ encode i := ne_encode_iff_reserved.mpr hr
  refine ⟨fun i hi => hv i (decode_eq_ok.mp hi), fun hp => ?_, fun u hp hu => cycle_writeIn_busy inWset_addrCmd hp v hu⟩
  calc hostWrite addrCmd v s = .next (idleWriteEffect addrCmd v s) := hostWrite_idle hp addrCmd v
    _ = .next (raiseError .illegalCmd s) := by rw [idleWriteEffect, if_pos rfl, idleWordEffect_of_ne_encode hv]

end Sys2Proof.Machine

/-! PROOFS, family 40 (word arithmetic). First the word operations as Lean's own and what undoes each, then ROUND and the statements. -/

namespace Sys2Proof.Machine

/-! ## ADD16 and XOR16, and what undoes them (40 R91, R92, R97) -/

theorem toNat_add16 (a b : Word) : (add16 a b).toNat = (a.toNat + b.toNat) % 65536 :=
  BitVec.toNat_add a b

@[simp] theorem add16_zero (a : Word) : add16 a 0#16 = a :=
  BitVec.add_zero a

@[simp] theorem sub16_add16 (a b : Word) : sub16 (add16 a b) b = a :=
  BitVec.add_sub_cancel a b

@[simp] theorem add16_sub16 (a b : Word) : add16 (sub16 a b) b = a :=
  BitVec.sub_add_cancel a b

theorem getLsbD_xor16 (a b : Word) (j : Nat) : (xor16 a b).getLsbD j = (a.getLsbD j).xor (b.getLsbD j) :=
  BitVec.getLsbD_xor

@[simp] theorem xor16_self (a : Word) : xor16 a a = 0#16 :=
  BitVec.xor_self

@[simp] theorem xor16_zero (a : Word) : xor16 a 0#16 = a :=
  BitVec.xor_zero

@[simp] theorem xor16_ones (a : Word) : xor16 a 0xFFFF#16 = ~~~a :=
  BitVec.xor_allOnes

/-- Exclusive or with the same word twice changes nothing. -/
@[simp] theorem xor16_xor16 (a b : Word) : xor16 (xor16 a b) b = a :=
  calc xor16 (xor16 a b) b = xor16 a (xor16 b b) := BitVec.xor_assoc a b b
    _ = a := by simp

/-- Settles O1: ADD16 is the addition of 16-bit words. -/
theorem add16WrapsModulo65536 : Obligations.Add16WrapsModulo65536 :=
  ⟨fun a b => ⟨toNat_add16 a b, BitVec.add_comm a b, add16_zero a⟩, by decide⟩

/-- Settles O2: XOR16 is the exclusive or of 16-bit words. -/
theorem xor16IsBitwise : Obligations.Xor16IsBitwise :=
  ⟨fun a b j _ => getLsbD_xor16 a b j, fun a => ⟨xor16_self a, xor16_zero a, xor16_ones a⟩, by decide⟩

/-! ## The rotations (00 R10; 40 R93, R94) -/

/-- A left rotation is the right rotation by the rest of the width, so each rule below is said of the right rotation only. -/
theorem rol16_eq_ror16 (v : Word) {r : Nat} (hr : r ≤ 16) : rol16 v r = ror16 v (16 - r) := by
  rw [rol16, ror16, Nat.sub_sub_self hr, BitVec.or_comm]

theorem ror16_eq_rotateRight (v : Word) {r : Nat} (hr : r < 16) : ror16 v r = v.rotateRight r :=
  (BitVec.rotateRight_eq_rotateRightAux_of_lt hr).symm

theorem rol16_eq_rotateLeft (v : Word) {r : Nat} (hr : r < 16) : rol16 v r = v.rotateLeft r :=
  (BitVec.rotateLeft_eq_rotateLeftAux_of_lt hr).symm

/-- The right rotation as shifts of unbounded integers: only the left shift can leave the word. -/
theorem toNat_ror16 (v : Word) (r : Nat) :
    (ror16 v r).toNat = (v.toNat >>> r ||| v.toNat <<< (16 - r)) % 65536 := by
  have hv : v.toNat >>> r % 2 ^ 16 = v.toNat >>> r := Nat.mod_eq_of_lt (v >>> r).isLt
  calc (ror16 v r).toNat = v.toNat >>> r ||| v.toNat <<< (16 - r) % 2 ^ 16 := by simp [ror16]
    _ = (v.toNat >>> r ||| v.toNat <<< (16 - r)) % 2 ^ 16 := by rw [Nat.or_mod_two_pow, hv]

/-- The right rotation as a permutation of bits: bit j comes from bit j + r, or wraps round to bit j + r - 16. -/
theorem getLsbD_ror16 (v : Word) {r j : Nat} (hr : r < 16) (hj : j < 16) :
    (ror16 v r).getLsbD j = v.getLsbD ((j + r) % 16) := by
  rw [ror16_eq_rotateRight v hr, BitVec.getLsbD_rotateRight_of_lt hr]
  by_cases h : j < 16 - r
  · have hmod : (j + r) % 16 = r + j := by omega
    simp [h, hmod]
  · have hmod : (j + r) % 16 = j - (16 - r) := by omega
    simp [h, hj, hmod]

/-- Two right rotations that make up the whole width undo each other: bit j comes from bit j + q + r, which is bit j again. -/
theorem ror16_ror16 (v : Word) {r q : Nat} (hr : r < 16) (hq : q < 16) (h : r + q = 16) : ror16 (ror16 v r) q = v := by
  refine BitVec.eq_of_getLsbD_eq fun j hj => ?_
  have hback : ((j + q) % 16 + r) % 16 = j := by omega
  rw [getLsbD_ror16 _ hq hj, getLsbD_ror16 v hr (Nat.mod_lt _ (by decide)), hback]

theorem ror7_eq_rotateRight (v : Word) : ror7 v = v.rotateRight 7 :=
  ror16_eq_rotateRight v (by decide)

theorem rol2_eq_rotateLeft (v : Word) : rol2 v = v.rotateLeft 2 :=
  rol16_eq_rotateLeft v (by decide)

theorem rol2_eq_ror16 (v : Word) : rol2 v = ror16 v 14 :=
  rol16_eq_ror16 v (by decide)

@[simp] theorem rol16_ror7 (v : Word) : rol16 (ror7 v) 7 = v := by
  rw [rol16_eq_ror16 _ (by decide), ror7, ror16_ror16 v (by decide) (by decide) (by decide)]

@[simp] theorem ror7_rol16 (v : Word) : ror7 (rol16 v 7) = v := by
  rw [rol16_eq_ror16 v (by decide), ror7, ror16_ror16 v (by decide) (by decide) (by decide)]

@[simp] theorem ror16_rol2 (v : Word) : ror16 (rol2 v) 2 = v := by
  rw [rol2_eq_ror16, ror16_ror16 v (by decide) (by decide) (by decide)]

@[simp] theorem rol2_ror16 (v : Word) : rol2 (ror16 v 2) = v := by
  rw [rol2_eq_ror16, ror16_ror16 v (by decide) (by decide) (by decide)]

/-- Settles O3: ROR7 is the right rotation by 7. -/
theorem ror7RotatesRightBySeven : Obligations.Ror7RotatesRightBySeven :=
  ⟨fun v => toNat_ror16 v 7, fun v _ hj => getLsbD_ror16 v (by decide) hj, by decide⟩

/-- Settles O4: ROL2 is the right rotation by 14. -/
theorem rol2RotatesLeftByTwo : Obligations.Rol2RotatesLeftByTwo := by
  refine ⟨fun v => ?_, fun v j hj => ?_, by decide⟩
  · rw [rol2_eq_ror16, toNat_ror16, Nat.or_comm]
  · rw [rol2_eq_ror16, getLsbD_ror16 v (by decide) hj]

/-! ## ROUND and its inverse (40 R95 to R97) -/

/-- The new `x`: steps 1 to 3 (40 R95). -/
theorem speckRound_fst (x y k : Word) : (speckRound x y k).1 = xor16 (add16 (ror7 x) y) k := rfl

/-- The new `y`: steps 4 and 5, the last with the new `x` (40 R96). -/
theorem speckRound_snd (x y k : Word) : (speckRound x y k).2 = xor16 (rol2 y) (speckRound x y k).1 := rfl

/-- Settles O5: the five steps, each as Lean's own operation. -/
theorem roundIsTheFiveSteps : Obligations.RoundIsTheFiveSteps := by
  have hfst (x y k : Word) : (speckRound x y k).1 = (x.rotateRight 7 + y) ^^^ k := by
    rw [speckRound_fst, ror7_eq_rotateRight, xor16, add16]
  refine ⟨fun x y k => ⟨hfst x y k, ?_⟩, by decide⟩
  rw [speckRound_snd, hfst, rol2_eq_rotateLeft, xor16]

/-- The two results of ROUND determine the old `y`, without the key (40 R97). -/
theorem ror16_speckRound (x y k : Word) : ror16 (xor16 (speckRound x y k).2 (speckRound x y k).1) 2 = y := by
  simp [speckRound_snd]

/-- The new `x`, the key and the old `y` determine the old `x` (40 R97). -/
theorem rol16_speckRound (x y k : Word) : rol16 (sub16 (xor16 (speckRound x y k).1 k) y) 7 = x := by
  simp [speckRound_fst]

theorem speckRoundInv_speckRound (x y k : Word) :
    speckRoundInv (speckRound x y k).1 (speckRound x y k).2 k = (x, y) := by
  simp only [speckRoundInv, ror16_speckRound, rol16_speckRound]

theorem speckRound_speckRoundInv (x y k : Word) :
    speckRound (speckRoundInv x y k).1 (speckRoundInv x y k).2 k = (x, y) := by
  have hx : (speckRound (speckRoundInv x y k).1 (speckRoundInv x y k).2 k).1 = x := by
    simp [speckRound_fst, speckRoundInv]
  have hy : (speckRound (speckRoundInv x y k).1 (speckRoundInv x y k).2 k).2 = y := by
    rw [speckRound_snd, hx]
    simp [speckRoundInv]
  exact Prod.ext hx hy

theorem speckRound_bijective (k : Word) : Function.Bijective fun p : Word × Word => speckRound p.1 p.2 k :=
  Function.bijective_iff_has_inverse.mpr ⟨fun p => speckRoundInv p.1 p.2 k,
    fun p => speckRoundInv_speckRound p.1 p.2 k, fun p => speckRound_speckRoundInv p.1 p.2 k⟩

/-- Settles O6: the rule's inverse undoes ROUND, and ROUND undoes it. -/
theorem roundIsABijectionForEachKey : Obligations.RoundIsABijectionForEachKey := fun k =>
  ⟨speckRound_bijective k,
    fun x y => ⟨ror16_speckRound x y k, rol16_speckRound x y k, speckRound_speckRoundInv x y k⟩⟩

end Sys2Proof.Machine

/-! PROOFS, family 41 (the key schedule). First the key loop as a function and the statements about it, then the key-schedule cycle,
what a running command does in a list of cycles, and EXPAND. -/

namespace Sys2Proof.Machine

/-! ## The key loop as a function (41 R110 to R114) -/

/-- The buffer word that iteration `i` updates is the one numbered `i mod 3` (41 R112). -/
theorem eq_ofNat_three {i : Nat} {j : Fin 3} : j = Fin.ofNat 3 i ↔ j.val = i % 3 := by
  simp [Fin.ext_iff]

/-- The updated buffer word is the new `x` of ROUND. -/
theorem keyIterate_a_same {i : Nat} {j : Fin 3} (hj : j.val = i % 3) (l : KeyLoop) :
    (keyIterate i l).a[j] = (speckRound l.a[j] l.b (BitVec.ofNat 16 i)).1 := by
  obtain rfl := eq_ofNat_three.mpr hj
  simp [keyIterate]

/-- The accumulator is the new `y` of the same ROUND. -/
theorem keyIterate_b {i : Nat} {j : Fin 3} (hj : j.val = i % 3) (l : KeyLoop) :
    (keyIterate i l).b = (speckRound l.a[j] l.b (BitVec.ofNat 16 i)).2 := by
  obtain rfl := eq_ofNat_three.mpr hj
  rfl

/-- The two other buffer words keep their values (41 R113). -/
theorem keyIterate_a_other {i : Nat} {j : Fin 3} (hj : j.val ≠ i % 3) (l : KeyLoop) :
    (keyIterate i l).a[j] = l.a[j] :=
  Vector.getElem_set_ne (Fin.isLt _) j.isLt (Ne.symm hj)

/-- Schedule entry `i` is the accumulator before iteration `i` (41 R110). -/
theorem getElem_expandFn (k0 k1 k2 k3 : Word) {i : Nat} (hi : i < 22) :
    (expandFn k0 k1 k2 k3)[i] = (keyLoop k0 k1 k2 k3 i).b :=
  Vector.getElem_ofFn _

/-- Settles O7: the start by definition, and each iteration as ROUND on `a[i mod 3]` and `b`. -/
theorem keyIterationFollowsTheReferenceRoles : Obligations.KeyIterationFollowsTheReferenceRoles := by
  intro k0 k1 k2 k3
  refine ⟨rfl, rfl, getElem_expandFn k0 k1 k2 k3 (by decide),
    fun i => ⟨getElem_expandFn k0 k1 k2 k3 i.isLt, fun j => ⟨fun hj => ?_, fun hj => ?_⟩⟩⟩
  · obtain ⟨hfst, -⟩ := roundIsTheFiveSteps.1 (keyLoop k0 k1 k2 k3 i.val).a[j] (keyLoop k0 k1 k2 k3 i.val).b
      (BitVec.ofNat 16 i.val)
    rw [keyLoop, keyIterate_a_same hj, keyIterate_b hj, speckRound_snd, rol2_eq_rotateLeft, hfst, xor16]
    exact ⟨rfl, rfl⟩
  · exact keyIterate_a_other hj _

/-- The new `y`, the key and the old `y` determine the old `x` (41 R122). -/
theorem rol16_speckRound_snd (x y k : Word) :
    rol16 (sub16 (xor16 (xor16 (speckRound x y k).2 (rol2 y)) k) y) 7 = x := by
  have hx : xor16 (speckRound x y k).2 (rol2 y) = (speckRound x y k).1 := by
    rw [speckRound_snd, xor16, xor16, BitVec.xor_comm (rol2 y), BitVec.xor_assoc, BitVec.xor_self, BitVec.xor_zero]
  rw [hx, rol16_speckRound]

/-- Two neighbouring schedule words give the buffer word that the iteration between them reads (41 R122). -/
theorem keyLoop_a_eq (k0 k1 k2 k3 : Word) {i : Nat} {j : Fin 3} (hj : j.val = i % 3) :
    (keyLoop k0 k1 k2 k3 i).a[j] =
      rol16 (sub16 (xor16 (xor16 (keyLoop k0 k1 k2 k3 (i + 1)).b (rol2 (keyLoop k0 k1 k2 k3 i).b)) (BitVec.ofNat 16 i))
        (keyLoop k0 k1 k2 k3 i).b) 7 := by
  rw [keyLoop, keyIterate_b hj, rol16_speckRound_snd]

/-- Iterations 0, 1 and 2 are the first to update `a[0]`, `a[1]` and `a[2]`, so each of them reads a key word (41 R112). -/
theorem keyLoop_a_first (k0 k1 k2 k3 : Word) (j : Fin 3) : (keyLoop k0 k1 k2 k3 j.val).a[j] = #v[k1, k2, k3][j] := by
  fin_cases j
  · rfl
  · exact keyIterate_a_other (by decide) _
  · exact (keyIterate_a_other (by decide) _).trans (keyIterate_a_other (by decide) _)

/-- The key by the spec's formulas of S[0..3] (41 R122). -/
theorem key_of_expandFn (k0 k1 k2 k3 : Word) :
    k0 = (expandFn k0 k1 k2 k3)[0] ∧
    k1 = rol16 (sub16 (xor16 (expandFn k0 k1 k2 k3)[1] (rol2 (expandFn k0 k1 k2 k3)[0])) (expandFn k0 k1 k2 k3)[0]) 7 ∧
    k2 = rol16 (sub16 (xor16 (xor16 (expandFn k0 k1 k2 k3)[2] (rol2 (expandFn k0 k1 k2 k3)[1])) 0x0001#16)
      (expandFn k0 k1 k2 k3)[1]) 7 ∧
    k3 = rol16 (sub16 (xor16 (xor16 (expandFn k0 k1 k2 k3)[3] (rol2 (expandFn k0 k1 k2 k3)[2])) 0x0002#16)
      (expandFn k0 k1 k2 k3)[2]) 7 := by
  have ha (j : Fin 3) := (keyLoop_a_first k0 k1 k2 k3 j).symm.trans
    (keyLoop_a_eq k0 k1 k2 k3 (Nat.mod_eq_of_lt j.isLt).symm)
  simp only [getElem_expandFn]
  refine ⟨rfl, ?_, ha 1, ha 2⟩
  rw [← xor16_zero (xor16 _ _)]
  exact ha 0

/-- Settles O8: the formulas compute the key from the schedule alone. -/
theorem scheduleDeterminesTheKey : Obligations.ScheduleDeterminesTheKey := by
  refine ⟨key_of_expandFn, fun k0 k1 k2 k3 m0 m1 m2 m3 h => ?_⟩
  obtain ⟨hk0, hk1, hk2, hk3⟩ := key_of_expandFn k0 k1 k2 k3
  obtain ⟨hm0, hm1, hm2, hm3⟩ := key_of_expandFn m0 m1 m2 m3
  rw [h] at hk0 hk1 hk2 hk3
  exact ⟨hk0.trans hm0.symm, hk1.trans hm1.symm, hk2.trans hm2.symm, hk3.trans hm3.symm⟩

end Sys2Proof.Machine

namespace Sys2Proof.Machine

/-! ## The key-schedule cycle (41 R117) -/

/-- The engine's loop variables, `KS_A` and `KS_B` (10 R43). -/
def ksLoop (s : State) : KeyLoop := { a := s.ksA, b := s.ksB }

/-- The round counter, extended to a word, is the constant of the iteration (41 R112). -/
theorem cnt_setWidth {s : State} {i : Nat} (hc : s.cnt.toNat = i) : s.cnt.setWidth 16 = BitVec.ofNat 16 i := by
  rw [← hc, BitVec.ofNat_toNat]

/-- A running key-schedule engine performs the cycle of its round. -/
theorem engineStep_ksCycle {s : State} {i : Fin 22} (hp : s.phase = phaseKS) (hc : s.cnt.toNat = i.val) :
    engineStep s = .next (ksCycle i s) := by
  rw [engineStep_ks hp, atRound_next]
  exact ⟨hc ▸ i.isLt, by simp only [hc]⟩

/-- A key-schedule cycle is an iteration of the key loop (41 R117). -/
theorem ksLoop_ksCycle {s : State} {i : Fin 22} (hc : s.cnt.toNat = i.val) :
    ksLoop (ksCycle i s) = keyIterate i.val (ksLoop s) := by
  rw [ksLoop, ksCycle_ksA, ksCycle_ksB, cnt_setWidth hc]
  rfl

/-- The counter counts on before the last round and returns to 0 after it (10 R41). -/
theorem ksCycle_cnt_eq {s : State} {i : Fin 22} (hc : s.cnt.toNat = i.val) :
    (ksCycle i s).cnt = if i.val < 21 then BitVec.ofNat 5 (i.val + 1) else 0#5 := by
  have hs : s.cnt + 1#5 = BitVec.ofNat 5 (i.val + 1) := by rw [← hc, BitVec.ofNat_add, BitVec.ofNat_toNat, BitVec.setWidth_eq]
  have hi : i.val = 21 ↔ ¬ i.val < 21 := by omega
  simp only [ksCycle_cnt, hs, hi, ite_not]

/-- The phase ends with the last round (10 R40). -/
theorem ksCycle_phase_eq {s : State} {i : Fin 22} (hp : s.phase = phaseKS) :
    (ksCycle i s).phase = if i.val < 21 then phaseKS else if s.comb then phaseENC else phaseIdle := by
  have hi : i.val = 21 ↔ ¬ i.val < 21 := by omega
  simp only [ksCycle_phase, hp, hi, ite_not]

/-- Settles O20: the engine step is `ksCycle`, whose index, constant, mask, phase and count are those of the statement. -/
theorem keyScheduleCycle : Obligations.KeyScheduleCycle := by
  intro s i j hp hc hj
  obtain rfl := eq_ofNat_three.mpr hj
  calc cycle idleIn s = engineStep s := rfl
    _ = .next (ksCycle i s) := engineStep_ksCycle hp hc
    _ = _ := by
      rw [← setRkv_eq, ← cnt_setWidth hc, ← ksCycle_cnt_eq hc, ← ksCycle_phase_eq hp]
      rfl

end Sys2Proof.Machine

namespace Sys2Proof.Machine

/-! ## A list of cycles while a command runs (60 R173, R175) -/

/-- While busy a cycle without reset is the engine step, with some read data and perhaps an error recorded beside it. -/
theorem cycle_busy {s w : State} {c : CycleIn} (hr : c.rst = false) (hp : s.phase ≠ phaseIdle) (hw : engineStep s = .next w) :
    ∃ r e k, cycle c s = .next { w with rdata := r, err := e, errcode := k } := by
  obtain ⟨rst, txn⟩ := c
  cases hr
  cases txn with
  | noTxn => exact ⟨_, _, _, hw⟩
  | read a =>
    have : cycle ⟨false, .read a⟩ s = .next (returnRead (readValue a s) w) := by
      rw [← andThen_of_next, ← hw]; rfl
    exact ⟨_, _, _, this⟩
  | write a v =>
    have hc : cycle ⟨false, .write a v⟩ s = if inWset a then rejectBusy s else engineStep s := hostWrite_busy hp a v
    rw [hc, rejectBusy, hw, andThen_of_next]
    split
    · exact ⟨_, _, _, rfl⟩
    · exact ⟨_, _, _, rfl⟩

/-- An engine step from the state a cycle of a list begins with, in which the read data of the last cycle is gone. -/
theorem cycle_nextCycle_busy {s w : State} {c : CycleIn} (hr : c.rst = false) (hp : s.phase ≠ phaseIdle)
    (hw : engineStep s = .next w) :
    ∃ r e k, cycle c (nextCycle s.host s) = .next { w with rdata := r, err := e, errcode := k } := by
  obtain ⟨r, e, k, h⟩ := cycle_busy (s := nextCycle s.host s) hr hp (engineStep_nextCycle s.host hw)
  obtain ⟨-, -, -, -, -, -, -, -, -, -, hh⟩ := engineStep_keeps hw
  exact ⟨r, e, k, by rw [h, ← hh]; rfl⟩

/-- The induction over the cycles of a running command: what the engine carries from round to round for `N` rounds, and what no read
data and no error record can change, holds after every list of at most `N` cycles without reset, whatever the host does in them. -/
theorem runCycles_busy {P : Nat → State → Prop} {N : Nat}
    (hstep : ∀ n t, n < N → P n t → t.phase ≠ phaseIdle ∧ ∃ w, engineStep t = .next w ∧ P (n + 1) w)
    (hport : ∀ n t r e k, P n t → P n { t with rdata := r, err := e, errcode := k })
    {cs : List CycleIn} (hr : noReset cs) {n : Nat} {s : State} (h : P n s) (hn : n + cs.length ≤ N) :
    ∃ t, runCycles cs s = .next t ∧ P (n + cs.length) t := by
  induction cs generalizing n s with
  | nil => exact ⟨s, rfl, h⟩
  | cons c cs ih =>
    rw [List.length_cons] at hn ⊢
    obtain ⟨hc, hr⟩ := List.forall_mem_cons.mp hr
    obtain ⟨hp, w, hw, hP⟩ := hstep n s (by omega) h
    obtain ⟨r, e, k, hcyc⟩ := cycle_nextCycle_busy hc hp hw
    obtain ⟨t, ht, hPt⟩ := ih hr (hport _ _ r e k hP) (by omega)
    refine ⟨t, ?_, by rwa [← Nat.add_assoc, Nat.add_right_comm]⟩
    rw [runCycles, hcyc]
    exact ht

end Sys2Proof.Machine

namespace Sys2Proof.Machine

/-! ## EXPAND (41 R118 to R120) -/

/-- The low mask has exactly the bits below `n`. -/
theorem getLsbD_lowMask (n : Nat) (i : Fin 22) : (lowMask n).getLsbD i.val = decide (i.val < n) := by
  rw [lowMask, BitVec.getLsbD_ofNat, Nat.testBit_two_pow_sub_one, decide_eq_true i.isLt, Bool.true_and]

/-- Marking entry `i` after the entries below it marks those below `i + 1` (41 R119). -/
theorem setRkv_lowMask (i : Fin 22) : setRkv i (lowMask i.val) = lowMask (i.val + 1) := by
  refine BitVec.eq_of_getLsbD_eq fun j hj => ?_
  have h := getLsbD_setRkv i ⟨j, hj⟩ (lowMask i.val)
  rw [getLsbD_lowMask i.val ⟨j, hj⟩] at h
  rw [h, getLsbD_lowMask _ ⟨j, hj⟩]
  rw [← Bool.decide_or, decide_eq_decide, Fin.ext_iff, Nat.lt_succ_iff_lt_or_eq, eq_comm (a := i.val)]

/-- What holds of the state `t` after `n` key-schedule cycles of a command whose accepting cycle ended in `u` (41 R117 to R119). -/
structure KsProgress (u : State) (n : Nat) (t : State) : Prop where
  /-- Before the last round is done, the core is in key-schedule cycle `n`. -/
  running : n < 22 → t.phase = phaseKS ∧ t.cnt.toNat = n
  /-- After it the core has left the phase. -/
  left : n = 22 → t.phase = (if u.comb then phaseENC else phaseIdle) ∧ t.cnt = 0#5
  /-- `KS_A` and `KS_B` are the loop variables before iteration `n`. -/
  loop : ksLoop t = keyProgress u n
  /-- Exactly the first `n` entries are marked. -/
  mask : t.rkv = lowMask n
  /-- The first `n` entries are final. -/
  entries : ∀ i : Fin 22, i.val < n → t.rk[i] = (keySchedule u)[i]
  comb : t.comb = u.comb
  key : t.key0 = u.key0 ∧ t.key1 = u.key1 ∧ t.key2 = u.key2 ∧ t.key3 = u.key3
  block : t.ptL = u.ptL ∧ t.ptR = u.ptR ∧ t.ctL = u.ctL ∧ t.ctR = u.ctR ∧ t.ctValid = u.ctValid ∧
    t.dpX = u.dpX ∧ t.dpY = u.dpY

namespace KsProgress

variable {u t : State} {n : Nat}

/-- It holds in the state an accepting cycle leaves: the phase begins, the engine is loaded from KEY and no entry is marked. -/
theorem init (hp : u.phase = phaseKS) (hc : u.cnt = 0#5) (hm : u.rkv = 0#22) (hl : ksLoop u = keyProgress u 0) :
    KsProgress u 0 u where
  running _ := ⟨hp, by rw [hc]; rfl⟩
  left h := absurd h (by decide)
  loop := hl
  mask := hm
  entries i hi := absurd hi (Nat.not_lt_zero _)
  comb := rfl
  key := ⟨rfl, rfl, rfl, rfl⟩
  block := ⟨rfl, rfl, rfl, rfl, rfl, rfl, rfl⟩

/-- Neither read data nor the error record matters to it. -/
theorem port (h : KsProgress u n t) (r : Option Word) (e : Bool) (k : BitVec 4) :
    KsProgress u n { t with rdata := r, err := e, errcode := k } :=
  ⟨h.running, h.left, h.loop, h.mask, h.entries, h.comb, h.key, h.block⟩

/-- A key-schedule cycle writes the next entry of the schedule and keeps the earlier ones. -/
theorem entries_ksCycle {i : Fin 22} (h : KsProgress u i.val t) (j : Fin 22) (hj : j.val < i.val + 1) :
    (ksCycle i t).rk[j] = (keySchedule u)[j] := by
  have hb : t.ksB = (keyProgress u i.val).b := congrArg KeyLoop.b h.loop
  rw [ksCycle_rk]
  obtain rfl | hji := eq_or_ne j i
  · exact (Vector.getElem_set_self _).trans (hb.trans (getElem_expandFn _ _ _ _ j.isLt).symm)
  · have hji : j.val ≠ i.val := Fin.val_ne_of_ne hji
    exact (Vector.getElem_set_ne _ _ hji.symm).trans (h.entries j (by omega))

/-- A key-schedule cycle carries it from `n` to `n + 1`. -/
theorem ksCycle {i : Fin 22} (h : KsProgress u i.val t) : KsProgress u (i.val + 1) (ksCycle i t) := by
  obtain ⟨hp, hc⟩ := h.running i.isLt
  have hphase := ksCycle_phase_eq (i := i) hp
  have hcnt := ksCycle_cnt_eq hc
  exact {
    running := fun hn => by
      have hi : i.val < 21 := by omega
      rw [if_pos hi] at hphase hcnt
      refine ⟨hphase, ?_⟩
      rw [hcnt, BitVec.toNat_ofNat]
      omega
    left := fun hn => by
      have hi : ¬ i.val < 21 := by omega
      rw [if_neg hi] at hphase hcnt
      exact ⟨h.comb ▸ hphase, hcnt⟩
    loop := by rw [ksLoop_ksCycle hc, h.loop]; rfl
    mask := by rw [ksCycle_rkv, h.mask, setRkv_lowMask]
    entries := h.entries_ksCycle
    comb := h.comb
    key := h.key
    block := h.block }

/-- The core is busy before its last round is done, and its engine step carries the progress on. -/
theorem step (hn : n < 22) (h : KsProgress u n t) :
    t.phase ≠ phaseIdle ∧ ∃ w, engineStep t = .next w ∧ KsProgress u (n + 1) w := by
  obtain ⟨hp, hc⟩ := h.running hn
  exact ⟨by simp [hp], _, engineStep_ksCycle (i := ⟨n, hn⟩) hp hc, ksCycle (i := ⟨n, hn⟩) h⟩

/-- After any `n` cycles without reset, the host's transactions notwithstanding, `n` rounds are done (41 R118). -/
theorem runCycles (h : KsProgress u 0 u) {cs : List CycleIn} (hr : noReset cs) (hn : cs.length ≤ 22) :
    ∃ t, runCycles cs u = .next t ∧ KsProgress u cs.length t := by
  simpa using runCycles_busy (fun _ _ => step) (fun _ _ r e k h => h.port r e k) hr h (by simpa using hn)

/-- A final entry reads as itself, because it is marked. -/
theorem readValue_rkAddr (h : KsProgress u n t) (i : Fin 22) (hi : i.val < n) : readValue (rkAddr i) t = (keySchedule u)[i] := by
  have hw : rkWritten i t = true := by rw [rkWritten, h.mask, getLsbD_lowMask, decide_eq_true hi]
  rw [Machine.readValue_rkAddr, rkRead, if_pos hw, h.entries i hi]

/-- After the last round RK is the schedule of the key (41 R118). -/
theorem rk_eq (h : KsProgress u 22 t) : t.rk = keySchedule u :=
  Vector.ext fun i hi => h.entries ⟨i, hi⟩ hi

end KsProgress

/-- Settles O22: EXPAND's accepting cycle starts the rounds, and each of the cycles after it is one. -/
theorem expandBuildsTheSchedule : Obligations.ExpandBuildsTheSchedule := by
  intro s u cs hp hu hr hn
  obtain rfl : u = acceptExpand s := by
    rw [exec_eq, commandCycle_idle hp] at hu
    exact (Host.Outcome.next.inj hu).symm
  have h0 : KsProgress (acceptExpand s) 0 (acceptExpand s) := .init rfl rfl rfl rfl
  obtain ⟨t, ht, h⟩ := h0.runCycles hr hn
  obtain ⟨hk0, hk1, hk2, hk3⟩ := h.key
  refine ⟨t, ht, fun hlt => ?_, fun heq => ?_, hk0, hk1, hk2, hk3, h.block⟩
  · obtain ⟨hphase, hcnt⟩ := h.running hlt
    exact ⟨hphase, hcnt, h.comb, h.mask, congrArg KeyLoop.a h.loop, congrArg KeyLoop.b h.loop,
      fun i hi => ⟨h.entries i hi, h.readValue_rkAddr i hi⟩⟩
  · obtain ⟨hphase, hcnt⟩ := h.left heq
    rw [heq] at h
    have hm : t.rkv = 0x3FFFFF#22 := h.mask
    exact ⟨hphase, hcnt, h.comb, hm, beq_iff_eq.mpr hm, h.rk_eq, congrArg KeyLoop.a h.loop, congrArg KeyLoop.b h.loop⟩

end Sys2Proof.Machine

/-! PROOFS, family 42 (block encryption). First the rounds as a function, then the encryption cycle, and ENCRYPT. -/

namespace Sys2Proof.Machine

/-! ## The rounds as a function (42 R130, R131) -/

/-- Round `n` applies ROUND with `S[n]` to the block of the rounds before it (42 R131). -/
theorem blockLoop_succ (S : Schedule) (l r : Word) {n : Nat} (hn : n < 22) :
    blockLoop S l r (n + 1) = speckRound (blockLoop S l r n).1 (blockLoop S l r n).2 S[n] := by
  have htake : S.toList.take (n + 1) = S.toList.take n ++ [S[n]] := by
    rw [← List.take_append_getElem (by simpa using hn), Vector.getElem_toList]
  rw [blockLoop, htake, List.foldl_append]
  rfl

/-- Settles O10: the start and the end by definition, and each round by the schedule's next entry. -/
theorem roundKeysAreUsedInScheduleOrder : Obligations.RoundKeysAreUsedInScheduleOrder :=
  fun S l r => ⟨rfl, rfl, fun i => blockLoop_succ S l r i.isLt⟩

end Sys2Proof.Machine

namespace Sys2Proof.Machine

/-! ## The encryption cycle (42 R134) -/

variable {s : State} {i : Fin 22}

/-- A running encryption engine performs the cycle of its round. -/
theorem engineStep_encCycle (hp : s.phase = phaseENC) (hc : s.cnt.toNat = i.val) : engineStep s = .next (encCycle i s) := by
  rw [engineStep_enc hp, atRound_next]
  exact ⟨hc ▸ i.isLt, by simp only [hc]⟩

/-- The counter that counts on holds the number of the next round (10 R41). -/
theorem cnt_add_one {n : Nat} (hc : s.cnt.toNat = n) : s.cnt + 1#5 = BitVec.ofNat 5 (n + 1) := by
  rw [← hc, BitVec.ofNat_add, BitVec.ofNat_toNat, BitVec.setWidth_eq]

/-- Before the last round the cycle changes the block and the counter only. -/
theorem encCycle_of_lt (hi : i.val < 21) :
    encCycle i s = { s with
      dpX := (speckRound s.dpX s.dpY s.rk[i]).1
      dpY := (speckRound s.dpX s.dpY s.rk[i]).2
      cnt := s.cnt + 1#5 } := by
  simp only [encCycle, if_neg (Nat.ne_of_lt hi)]

/-- The last round also writes CT, sets CT_VALID and returns the sequencer to idle. -/
theorem encCycle_last (hi : i.val = 21) :
    encCycle i s = { s with
      dpX := (speckRound s.dpX s.dpY s.rk[i]).1
      dpY := (speckRound s.dpX s.dpY s.rk[i]).2
      ctL := (speckRound s.dpX s.dpY s.rk[i]).1
      ctR := (speckRound s.dpX s.dpY s.rk[i]).2
      ctValid := true, phase := phaseIdle, cnt := 0#5, comb := false } := by
  simp only [encCycle, if_pos hi]

/-- Settles O21: the engine step is `encCycle`, before the last round and in it. -/
theorem encryptionCycle : Obligations.EncryptionCycle := by
  intro s i hp hc
  have hcycle : cycle idleIn s = .next (encCycle i s) := engineStep_encCycle hp hc
  rw [hcycle]
  exact ⟨fun hi => by rw [encCycle_of_lt hi, cnt_add_one hc], fun hi => by rw [encCycle_last hi]⟩

end Sys2Proof.Machine

namespace Sys2Proof.Machine

/-! ## ENCRYPT (42 R135 to R138) -/

/-- What holds of the state `t` after `n` encryption cycles of a command whose encryption phase began in `u` (42 R134 to R138). -/
structure EncProgress (u : State) (n : Nat) (t : State) : Prop where
  /-- Before the last round is done, the core is in encryption cycle `n` with the previous result in CT. -/
  running : n < 22 → t.phase = phaseENC ∧ t.cnt.toNat = n ∧ t.comb = u.comb ∧
    t.ctL = u.ctL ∧ t.ctR = u.ctR ∧ t.ctValid = u.ctValid
  /-- After it the core is idle with the block in CT. -/
  finished : n = 22 → t.phase = phaseIdle ∧ t.cnt = 0#5 ∧ t.comb = false ∧
    (t.ctL, t.ctR) = (t.dpX, t.dpY) ∧ t.ctValid = true
  /-- `DP_X` and `DP_Y` are the block after `n` rounds. -/
  block : (t.dpX, t.dpY) = blockLoop u.rk u.ptL u.ptR n
  /-- The round keys are those of the start. -/
  rk : t.rk = u.rk
  inputs : t.key0 = u.key0 ∧ t.key1 = u.key1 ∧ t.key2 = u.key2 ∧ t.key3 = u.key3 ∧ t.ptL = u.ptL ∧ t.ptR = u.ptR
  keyEngine : t.rkv = u.rkv ∧ t.ksA = u.ksA ∧ t.ksB = u.ksB

namespace EncProgress

variable {u t : State} {n : Nat}

/-- It holds where the phase begins with the plaintext in DP_X and DP_Y. -/
theorem init (hp : u.phase = phaseENC) (hc : u.cnt = 0#5) (hx : u.dpX = u.ptL) (hy : u.dpY = u.ptR) : EncProgress u 0 u where
  running _ := ⟨hp, by rw [hc]; rfl, rfl, rfl, rfl, rfl⟩
  finished h := absurd h (by decide)
  block := by rw [hx, hy]; rfl
  rk := rfl
  inputs := ⟨rfl, rfl, rfl, rfl, rfl, rfl⟩
  keyEngine := ⟨rfl, rfl, rfl⟩

/-- Neither read data nor the error record matters to it. -/
theorem port (h : EncProgress u n t) (r : Option Word) (e : Bool) (k : BitVec 4) :
    EncProgress u n { t with rdata := r, err := e, errcode := k } :=
  ⟨h.running, h.finished, h.block, h.rk, h.inputs, h.keyEngine⟩

/-- An encryption cycle is the next round on the block (42 R131, R134). -/
theorem block_encCycle {i : Fin 22} (h : EncProgress u i.val t) :
    ((encCycle i t).dpX, (encCycle i t).dpY) = blockLoop u.rk u.ptL u.ptR (i.val + 1) := by
  rw [blockLoop_succ _ _ _ i.isLt, ← h.block, ← h.rk]
  rfl

/-- An encryption cycle carries it from `n` to `n + 1`. -/
theorem encCycle {i : Fin 22} (h : EncProgress u i.val t) : EncProgress u (i.val + 1) (encCycle i t) where
  running hn := by
    have hi : i.val < 21 := by omega
    obtain ⟨hp, hc, hrest⟩ := h.running i.isLt
    rw [encCycle_of_lt hi, cnt_add_one hc]
    refine ⟨hp, ?_, hrest⟩
    rw [BitVec.toNat_ofNat]
    omega
  finished hn := by
    rw [encCycle_last (by omega)]
    exact ⟨rfl, rfl, rfl, rfl, rfl⟩
  block := h.block_encCycle
  rk := h.rk
  inputs := h.inputs
  keyEngine := h.keyEngine

/-- The core is busy before its last round is done, and its engine step carries the progress on. -/
theorem step (hn : n < 22) (h : EncProgress u n t) :
    t.phase ≠ phaseIdle ∧ ∃ w, engineStep t = .next w ∧ EncProgress u (n + 1) w := by
  obtain ⟨hp, hc, -⟩ := h.running hn
  exact ⟨by simp [hp], _, engineStep_encCycle (i := ⟨n, hn⟩) hp hc, encCycle (i := ⟨n, hn⟩) h⟩

/-- After any `n` cycles without reset, the host's transactions notwithstanding, `n` rounds are done (42 R135). -/
theorem runCycles (h : EncProgress u 0 u) {cs : List CycleIn} (hr : noReset cs) (hn : cs.length ≤ 22) :
    ∃ t, runCycles cs u = .next t ∧ EncProgress u cs.length t := by
  simpa using runCycles_busy (fun _ _ => step) (fun _ _ r e k h => h.port r e k) hr h (by simpa using hn)

/-- After the last round the block is the encryption of the plaintext (42 R130). -/
theorem block_eq_encryptFn (h : EncProgress u 22 t) : (t.dpX, t.dpY) = encryptFn u.ptL u.ptR u.rk := h.block

end EncProgress

/-- With a complete schedule ENCRYPT is accepted while idle (42 R133). -/
theorem exec_encrypt_idle {s : State} (hp : s.phase = phaseIdle) (hm : s.rkv = fullMask) :
    exec .encrypt s = .next (acceptEncrypt s) := by
  have hv : schedValid s = true := beq_iff_eq.mpr hm
  rw [exec_eq, commandCycle_idle hp, idleEffect, if_pos hv]

/-- Settles O23: ENCRYPT's accepting cycle loads the plaintext, and each of the cycles after it is a round. -/
theorem encryptProducesTheCiphertext : Obligations.EncryptProducesTheCiphertext := by
  intro s u cs hp hm hu hr hn
  obtain rfl : u = acceptEncrypt s := Host.Outcome.next.inj (hu.symm.trans (exec_encrypt_idle hp hm))
  have h0 : EncProgress (acceptEncrypt s) 0 (acceptEncrypt s) := .init rfl rfl rfl rfl
  obtain ⟨t, ht, h⟩ := h0.runCycles hr hn
  obtain ⟨hk0, hk1, hk2, hk3, hptL, hptR⟩ := h.inputs
  refine ⟨t, ht, fun hlt => ?_, fun heq => ?_, hk0, hk1, hk2, hk3, hptL, hptR, h.rk, h.keyEngine⟩
  · obtain ⟨hphase, hcnt, hcomb, hct⟩ := h.running hlt
    exact ⟨hphase, hcnt, hcomb, h.block, hct⟩
  · obtain ⟨hphase, hcnt, hcomb, hct, hvalid⟩ := h.finished heq
    rw [heq] at h
    exact ⟨hphase, hcnt, hcomb, hct.trans h.block_eq_encryptFn, h.block_eq_encryptFn, hvalid⟩

end Sys2Proof.Machine

/-! PROOFS, family 43 (ENCRYPT_COMBINED and the control commands). First a command while idle and while busy with NOP and CLRERR, then
the phases of ENCRYPT_COMBINED, and last the states in which undisturbed phases end. -/

namespace Sys2Proof.Machine

/-! ## NOP and CLRERR (43 R154, R155) -/

/-- A command written while idle has its idle effect (60 R172). -/
theorem exec_idle {s : State} (hp : s.phase = phaseIdle) (i : Instr) : exec i s = .next (idleEffect i s) := by
  rw [exec_eq, commandCycle_idle hp]

/-- A command written while busy only records BUSY beside the engine step, whichever command it is (60 R173). -/
theorem exec_busy {s u : State} (hp : s.phase ≠ phaseIdle) (hu : engineStep s = .next u) (i : Instr) :
    exec i s = .next { u with err := true, errcode := if s.err then s.errcode else 1#4 } := by
  have hcycle : cycle (writeIn addrCmd (encode i)) s = exec i s := by cases i <;> rfl
  rw [← hcycle]
  exact cycle_writeIn_busy inWset_addrCmd hp (encode i) hu

/-- Settles O11: NOP has no effect while idle, and is rejected like every command while busy. -/
theorem nopChangesNothing : Obligations.NopChangesNothing :=
  ⟨encode_nop, fun _ hp => exec_idle hp .nop, fun _ _ hp hu => exec_busy hp hu .nop⟩

/-- Clearing a clear error record changes nothing. -/
theorem clearError_of_clear {s : State} (he : s.err = false) (hc : s.errcode = 0#4) : clearError s = s := by
  rw [clearError, ← he, ← hc]

/-- Clearing the error record clears bits 3 to 7 of STATUS, and no other (10 R32). -/
theorem statusWord_clearError (s : State) : statusWord (clearError s) = statusWord s &&& 0xFF07#16 := by
  refine BitVec.eq_of_getLsbD_eq fun k hk => ?_
  rw [BitVec.getLsbD_and, getLsbD_statusWord, getLsbD_statusWord]
  interval_cases k <;> simp [busy, schedValid]

/-- Settles O12: the idle effect is `clearError`; STATUS 0x0038 is that of an idle state, with the error bits alone set. -/
theorem clrerrClearsTheErrorRecord : Obligations.ClrerrClearsTheErrorRecord := by
  refine ⟨encode_clrerr, fun _ hp => exec_idle hp .clrerr, fun s hp he hc => ?_, fun s t hs ht => ?_,
    fun _ _ hp hu => exec_busy hp hu .clrerr⟩
  · rw [exec_idle hp, idleEffect, clearError_of_clear he hc]
  · obtain ⟨-, -, hbusy, -⟩ := statusLayout.2 s
    have hp : s.phase = phaseIdle := by
      rw [hs] at hbusy
      exact not_not.mp fun h => absurd (hbusy.mpr h) (by decide)
    obtain rfl : clearError s = t := Host.Outcome.next.inj ((exec_idle hp .clrerr).symm.trans ht)
    rw [statusWord_clearError, hs]
    decide

end Sys2Proof.Machine

namespace Sys2Proof.Machine

/-! ## ENCRYPT_COMBINED (43 R151, R153) -/

/-- A list of cycles answers when its first cycle does and the others do after it. -/
theorem runCycles_cons {c : CycleIn} {cs : List CycleIn} {s t : State} :
    runCycles (c :: cs) s = .next t ↔ ∃ w, cycle c (nextCycle s.host s) = .next w ∧ runCycles cs w = .next t := by
  rw [runCycles]
  cases cycle c (nextCycle s.host s) <;> simp

/-- Two lists of cycles in turn are the one list. -/
theorem runCycles_append {cs ds : List CycleIn} {s t : State} :
    runCycles (cs ++ ds) s = .next t ↔ ∃ w, runCycles cs s = .next w ∧ runCycles ds w = .next t := by
  induction cs generalizing s with
  | nil => simp [runCycles]
  | cons c cs ih =>
    simp only [List.cons_append, runCycles_cons, ih]
    exact ⟨fun ⟨v, hv, w, hw, ht⟩ => ⟨w, ⟨v, hv, hw⟩, ht⟩, fun ⟨w, ⟨v, hv, hw⟩, ht⟩ => ⟨v, hv, w, hw, ht⟩⟩

namespace KsProgress

variable {u t : State} {n : Nat}

/-- Before the last round is done the schedule is not complete: its last entry is not marked (10 R29). -/
theorem schedValid_of_lt (h : KsProgress u n t) (hn : n < 22) : schedValid t = false := by
  have hlast : t.rkv.getLsbD 21 = decide (21 < n) := h.mask ▸ getLsbD_lowMask n 21
  refine beq_eq_false_iff_ne.mpr fun hm => ?_
  rw [hm, decide_eq_false (by omega)] at hlast
  exact absurd hlast (by decide)

/-- After the last round the schedule is complete (10 R29). -/
theorem schedValid_last (h : KsProgress u 22 t) : schedValid t = true := beq_iff_eq.mpr h.mask

/-- The key-schedule phase of ENCRYPT_COMBINED ends where an encryption phase begins, the plaintext still in DP_X and DP_Y (43 R151). -/
theorem encProgress (h : KsProgress u 22 t) (hc : u.comb = true) (hx : u.dpX = u.ptL) (hy : u.dpY = u.ptR) :
    EncProgress t 0 t := by
  obtain ⟨hp, hcnt⟩ := h.left rfl
  obtain ⟨hl, hr, -, -, -, hdx, hdy⟩ := h.block
  rw [if_pos hc] at hp
  exact .init hp hcnt (by rw [hdx, hx, hl]) (by rw [hdy, hy, hr])

end KsProgress

/-- The accepting cycle of ENCRYPT_COMBINED starts the key-schedule rounds (43 R150). -/
theorem ksProgress_acceptCombined (s : State) : KsProgress (acceptCombined s) 0 (acceptCombined s) := .init rfl rfl rfl rfl

/-- From its 22nd cycle on ENCRYPT_COMBINED has done the key-schedule rounds, and then an encryption round a cycle (43 R151). -/
theorem runCycles_acceptCombined {s : State} {cs : List CycleIn} (hr : noReset cs) (h22 : 22 ≤ cs.length)
    (h44 : cs.length ≤ 44) :
    ∃ v t, runCycles cs (acceptCombined s) = .next t ∧ KsProgress (acceptCombined s) 22 v ∧
      EncProgress v (cs.length - 22) t := by
  have hlen : (cs.take 22).length = 22 := by simpa using h22
  obtain ⟨v, hv, hks⟩ := (ksProgress_acceptCombined s).runCycles (cs := cs.take 22)
    (fun c hc => hr c (List.mem_of_mem_take hc)) hlen.le
  rw [hlen] at hks
  obtain ⟨t, ht, henc⟩ := (hks.encProgress rfl rfl rfl).runCycles (cs := cs.drop 22)
    (fun c hc => hr c (List.mem_of_mem_drop hc)) (by rw [List.length_drop]; omega)
  rw [List.length_drop] at henc
  refine ⟨v, t, ?_, hks, henc⟩
  rw [← List.take_append_drop 22 cs]
  exact runCycles_append.mpr ⟨v, hv, ht⟩

/-- Settles O24: the first 22 cycles are key-schedule rounds, the next 22 encryption rounds under the schedule they leave. -/
theorem combinedExpandsThenEncrypts : Obligations.CombinedExpandsThenEncrypts := by
  intro s u cs hp hu hr h44
  obtain rfl : acceptCombined s = u := Host.Outcome.next.inj ((exec_idle hp .encryptCombined).symm.trans hu)
  obtain hlt | hge := Nat.lt_or_ge cs.length 22
  · obtain ⟨t, ht, h⟩ := (ksProgress_acceptCombined s).runCycles hr hlt.le
    obtain ⟨hk0, hk1, hk2, hk3⟩ := h.key
    obtain ⟨hptL, hptR, hctL, hctR, hctValid, hdpX, hdpY⟩ := h.block
    obtain ⟨hphase, hcnt⟩ := h.running hlt
    exact ⟨t, ht,
      fun _ => ⟨hphase, hcnt, h.comb, hctValid, h.schedValid_of_lt hlt, hdpX, hdpY, h.entries⟩,
      fun h22 => absurd h22 (by omega), fun h44 => absurd h44 (by omega), fun _ => ⟨hctL, hctR⟩,
      hk0, hk1, hk2, hk3, hptL, hptR⟩
  · obtain ⟨v, t, ht, hks, henc⟩ := runCycles_acceptCombined hr hge h44
    obtain ⟨hvk0, hvk1, hvk2, hvk3⟩ := hks.key
    obtain ⟨hvptL, hvptR, hvctL, hvctR, hvctValid, -⟩ := hks.block
    obtain ⟨hk0, hk1, hk2, hk3, hptL, hptR⟩ := henc.inputs
    obtain ⟨hrkv, -⟩ := henc.keyEngine
    have hvrk : v.rk = keySchedule s := hks.rk_eq
    have hvalid : schedValid t = true := by rw [schedValid, hrkv]; exact hks.schedValid_last
    have hrk : t.rk = keySchedule s := henc.rk.trans hvrk
    have hblock : (t.dpX, t.dpY) = blockLoop (keySchedule s) s.ptL s.ptR (cs.length - 22) := by
      rw [henc.block, hvrk, hvptL, hvptR]; rfl
    refine ⟨t, ht, fun h22 => absurd h22 (by omega), fun _ hlt => ?_, fun heq => ?_, fun hlt => ?_, hk0.trans hvk0,
      hk1.trans hvk1, hk2.trans hvk2, hk3.trans hvk3, hptL.trans hvptL, hptR.trans hvptR⟩
    · obtain ⟨hphase, hcnt, hcomb, -, -, hctValid⟩ := henc.running (by omega)
      exact ⟨hphase, hcnt, hcomb.trans hks.comb, hctValid.trans hvctValid, hvalid, hrk, hblock⟩
    · obtain ⟨hphase, hcnt, hcomb, hct, hctValid⟩ := henc.finished (by omega)
      rw [heq] at hblock
      exact ⟨hphase, hcnt, hcomb, hctValid, hvalid, hrk, hct.trans hblock⟩
    · obtain ⟨-, -, -, hctL, hctR, -⟩ := henc.running (by omega)
      exact ⟨hctL.trans hvctL, hctR.trans hvctR⟩

end Sys2Proof.Machine

namespace Sys2Proof.Machine

/-! ## The states in which undisturbed phases end (43 R152) -/

/-- Cycles in which the host does nothing keep the error record and the model's own fields, but for the read data, which is gone. -/
theorem runCycles_idleIn_keeps {n : Nat} {s t : State} (hn : s.rdata = none ∨ 0 < n)
    (h : runCycles (List.replicate n idleIn) s = .next t) :
    t.err = s.err ∧ t.errcode = s.errcode ∧ t.rdata = none ∧ t.draws = s.draws ∧ t.host = s.host := by
  induction n generalizing s with
  | zero =>
    cases h
    exact ⟨rfl, rfl, hn.resolve_right (Nat.not_lt_zero 0), rfl, rfl⟩
  | succ n ih =>
    obtain ⟨w, hw, ht⟩ := runCycles_cons.mp h
    obtain ⟨-, -, -, -, -, -, he, hc, hr, hd, hh⟩ := engineStep_keeps hw
    obtain ⟨he', hc', hr', hd', hh'⟩ := ih (.inl hr) ht
    exact ⟨he'.trans he, hc'.trans hc, hr', hd'.trans hd, hh'.trans hh⟩

/-- The state in which an undisturbed key-schedule phase ends that begins in `u`, with the schedule `S` and the loop variables `l`
(41 R118, 43 R151). -/
def endKeySchedule (S : Schedule) (l : KeyLoop) (u : State) : State :=
  { u with
    rk := S, rkv := fullMask, ksA := l.a, ksB := l.b
    phase := if u.comb then phaseENC else phaseIdle, cnt := 0#5, rdata := none }

/-- The state in which an undisturbed encryption phase ends that begins in `u`, with the block `b` (42 R135). -/
def endEncryption (b : Word × Word) (u : State) : State :=
  { u with
    dpX := b.1, dpY := b.2, ctL := b.1, ctR := b.2, ctValid := true
    phase := phaseIdle, cnt := 0#5, comb := false, rdata := none }

theorem noReset_replicate_idleIn (n : Nat) : noReset (List.replicate n idleIn) :=
  fun _ hc => List.eq_of_mem_replicate hc ▸ rfl

/-- An undisturbed key-schedule phase determines every register: those of the engine by the rounds, the others by their frame. -/
theorem runCycles_endKeySchedule {u : State} (h0 : KsProgress u 0 u) :
    runCycles (List.replicate 22 idleIn) u = .next (endKeySchedule (keySchedule u) (keyProgress u 22) u) := by
  obtain ⟨t, ht, h⟩ := h0.runCycles (noReset_replicate_idleIn 22) (List.length_replicate ..).le
  rw [List.length_replicate] at h
  obtain ⟨herr, hcode, hrdata, hdraws, hhost⟩ := runCycles_idleIn_keeps (.inr (by decide)) ht
  obtain ⟨hk0, hk1, hk2, hk3⟩ := h.key
  obtain ⟨hptL, hptR, hctL, hctR, hctValid, hdpX, hdpY⟩ := h.block
  obtain ⟨hphase, hcnt⟩ := h.left rfl
  have heq : t = endKeySchedule (keySchedule u) (keyProgress u 22) u := by
    cases t
    rw [endKeySchedule, State.mk.injEq]
    exact ⟨hk0, hk1, hk2, hk3, hptL, hptR, hctL, hctR, hctValid, h.rk_eq, h.mask, herr, hcode, hphase, hcnt, h.comb,
      congrArg KeyLoop.b h.loop, congrArg KeyLoop.a h.loop, hdpX, hdpY, hrdata, hdraws, hhost⟩
  rw [ht, heq]

/-- An undisturbed encryption phase determines every register in the same way. -/
theorem runCycles_endEncryption {u : State} (h0 : EncProgress u 0 u) :
    runCycles (List.replicate 22 idleIn) u = .next (endEncryption (encryptFn u.ptL u.ptR u.rk) u) := by
  obtain ⟨t, ht, h⟩ := h0.runCycles (noReset_replicate_idleIn 22) (List.length_replicate ..).le
  rw [List.length_replicate] at h
  obtain ⟨herr, hcode, hrdata, hdraws, hhost⟩ := runCycles_idleIn_keeps (.inr (by decide)) ht
  obtain ⟨hk0, hk1, hk2, hk3, hptL, hptR⟩ := h.inputs
  obtain ⟨hrkv, hksA, hksB⟩ := h.keyEngine
  obtain ⟨hphase, hcnt, hcomb, hct, hctValid⟩ := h.finished rfl
  obtain ⟨hdpX, hdpY⟩ := Prod.ext_iff.mp h.block_eq_encryptFn
  obtain ⟨hctL, hctR⟩ := Prod.ext_iff.mp (hct.trans h.block_eq_encryptFn)
  have heq : t = endEncryption (encryptFn u.ptL u.ptR u.rk) u := by
    cases t
    rw [endEncryption, State.mk.injEq]
    exact ⟨hk0, hk1, hk2, hk3, hptL, hptR, hctL, hctR, hctValid, h.rk, hrkv, herr, hcode, hphase, hcnt, hcomb,
      hksB, hksA, hdpX, hdpY, hrdata, hdraws, hhost⟩
  rw [ht, heq]

/-- An accepted EXPAND, undisturbed, leaves the schedule of the key (41 R118). -/
theorem runCycles_acceptExpand (s : State) : runCycles (List.replicate 22 idleIn) (acceptExpand s) =
    .next (endKeySchedule (keySchedule s) (keyProgress s 22) (acceptExpand s)) :=
  runCycles_endKeySchedule (.init rfl rfl rfl rfl)

/-- An accepted ENCRYPT, undisturbed, leaves the encryption of the plaintext (42 R135). -/
theorem runCycles_acceptEncrypt (s : State) : runCycles (List.replicate 22 idleIn) (acceptEncrypt s) =
    .next (endEncryption (encryptFn s.ptL s.ptR s.rk) (acceptEncrypt s)) :=
  runCycles_endEncryption (.init rfl rfl rfl rfl)

/-- An accepted ENCRYPT_COMBINED, undisturbed, ends its key-schedule phase with the schedule of the key (43 R151). -/
theorem runCycles_acceptCombined_idleIn (s : State) : runCycles (List.replicate 22 idleIn) (acceptCombined s) =
    .next (endKeySchedule (keySchedule s) (keyProgress s 22) (acceptCombined s)) :=
  runCycles_endKeySchedule (ksProgress_acceptCombined s)

/-- The encryption phase of ENCRYPT_COMBINED begins where that of ENCRYPT after EXPAND does, but for COMB (43 R151). -/
theorem endKeySchedule_acceptCombined (S : Schedule) (l : KeyLoop) (s : State) :
    endKeySchedule S l (acceptCombined s) = { acceptEncrypt (endKeySchedule S l (acceptExpand s)) with comb := true } := rfl

/-- Settles O25: the encryption phases of the two command sequences begin in states that differ in COMB alone, which the end of the
phase clears. -/
theorem combinedEqualsExpandThenEncrypt : Obligations.CombinedEqualsExpandThenEncrypt := by
  intro s hp
  have hks := runCycles_acceptExpand s
  have hcks := runCycles_acceptCombined_idleIn s
  rw [← keySchedule]
  -- What the schedule and the loop variables are no longer matters; as variables they are not computed.
  generalize keySchedule s = S, keyProgress s 22 = l at *
  have henc := runCycles_acceptEncrypt (endKeySchedule S l (acceptExpand s))
  have hcenc := runCycles_endEncryption (u := endKeySchedule S l (acceptCombined s)) (.init rfl rfl rfl rfl)
  rw [endKeySchedule_acceptCombined] at hcks hcenc
  refine ⟨_, _, _, _, _, exec_idle hp .expand, hks, exec_encrypt_idle rfl rfl, henc, exec_idle hp .encryptCombined, ?_, rfl, rfl⟩
  rw [show (44 : Nat) = 22 + 22 from rfl, List.replicate_add]
  exact runCycles_append.mpr ⟨_, hcks, hcenc⟩

end Sys2Proof.Machine

/-! PROOFS, family 60 (the error record). First the reporting of an error, then the steps that report none, and the statements. -/

namespace Sys2Proof.Machine

/-! ## While busy (60 R173) -/

/-- Settles O18: while busy a write to WSET records BUSY, a write elsewhere is no write, and a read only fills the port. -/
theorem writesWhileBusyAreDropped : Obligations.WritesWhileBusyAreDropped := by
  refine ⟨fun _ => inWset_eq_true, fun s u hp hu =>
    ⟨fun a v ha => cycle_writeIn_busy ha hp v hu, exec_busy hp hu, fun a v ha => ?_, fun a => ⟨readValue a s, ?_⟩⟩⟩
  · rw [cycle_writeIn_of_not_inWset ha, hu]
  · rw [cycle_readIn, hu, andThen_of_next, returnRead]

/-! ## The three causes and their priority (60 R171 to R176) -/

/-- Every cause has one of the codes 1, 2 and 3 (10 R34). -/
theorem ErrCause.code_cases (k : ErrCause) : k.code = 1#4 ∨ k.code = 2#4 ∨ k.code = 3#4 := by
  cases k <;> decide

/-- A word is not well formed exactly when it encodes no command (30 R75). -/
theorem cmdWordWf_eq_false {v : Word} : cmdWordWf v = false ↔ ∀ i, v ≠ encode i := by
  have hrsvd : rsvdZero v = true ↔ v.toNat / 16 = 0 := by
    have := v.isLt
    rw [rsvdZero, beq_iff_eq, ← BitVec.toNat_inj, BitVec.extractLsb'_toNat, Nat.shiftRight_eq_div_pow]
    simp only [BitVec.toNat_ofNat]
    omega
  have hop : opAssigned v = true ↔ v.toNat % 16 ≤ 4 := by
    rw [opAssigned, decide_eq_true_iff, BitVec.extractLsb'_toNat, Nat.shiftRight_zero]
  rw [ne_encode_iff_reserved, ← Bool.not_eq_true, cmdWordWf, Bool.and_eq_true, hrsvd, hop]
  omega

/-- `SCHED_VALID = 0` means that the mask is not the complete one (10 R29). -/
theorem schedValid_eq_false {s : State} : schedValid s = false ↔ s.rkv ≠ fullMask := beq_eq_false_iff_ne

/-- A word written to CMD while idle has the word's idle effect (60 R172). -/
theorem hostWrite_addrCmd_idle {s : State} (hp : s.phase = phaseIdle) (v : Word) :
    hostWrite addrCmd v s = .next (idleWordEffect v s) := hostWrite_idle hp addrCmd v

/-- ENCRYPT without a complete schedule only raises NO_SCHEDULE (60 R172). -/
theorem idleEffect_encrypt_of_no_schedule {s : State} (hv : schedValid s = false) :
    idleEffect .encrypt s = raiseError .noSchedule s := by
  rw [idleEffect, if_neg (ne_true_of_eq_false hv)]

/-- Of the commands accepted while idle only CLRERR touches the error record (43 R155). -/
theorem idleEffect_keeps_error {i : Instr} {s : State} (hi : i ≠ .clrerr) (hv : i = .encrypt → schedValid s = true) :
    (idleEffect i s).err = s.err ∧ (idleEffect i s).errcode = s.errcode := by
  cases i with
  | nop | expand | encryptCombined => exact ⟨rfl, rfl⟩
  | encrypt => rw [idleEffect, if_pos (hv rfl)]; exact ⟨rfl, rfl⟩
  | clrerr => exact absurd rfl hi

/-- With no error recorded, an error's code is recorded (60 R174). -/
theorem raiseError_of_no_error {s : State} (he : s.err = false) (k : ErrCause) :
    raiseError k s = { s with err := true, errcode := k.code } := by
  simp [raiseError, he]

/-- Settles O16: BUSY is the rejected write; while idle the word is a command's, whose effect is known, or no command's. -/
theorem oneErrorIsReportedInPriorityOrder : Obligations.OneErrorIsReportedInPriorityOrder := by
  intro s t v he h
  have hidle (hp : s.phase = phaseIdle) : t = idleWordEffect v s :=
    (Host.Outcome.next.inj ((hostWrite_addrCmd_idle hp v).symm.trans h)).symm
  refine ⟨fun hp => ?_, fun hp hv => ?_, fun hp hv hm => ?_, fun hp hv hclr henc => ?_, fun hp hv => ?_⟩
  · rw [hostWrite_busy hp, if_pos inWset_addrCmd, rejectBusy_next] at h
    obtain ⟨u, hu, rfl⟩ := h
    obtain ⟨-, -, -, -, -, -, heu, -⟩ := engineStep_keeps hu
    rw [raiseError_of_no_error (heu.trans he)]
    exact ⟨rfl, rfl⟩
  · have hne : ∀ i, v ≠ encode i := not_exists.mp fun hx => absurd (exists_eq_encode.mp hx) (Nat.not_le.mpr hv)
    rw [hidle hp, idleWordEffect_of_ne_encode hne, raiseError_of_no_error he]
    rfl
  · obtain rfl : v = encode .encrypt := hv
    rw [hidle hp, idleWordEffect_encode, idleEffect_encrypt_of_no_schedule (schedValid_eq_false.mpr hm),
      raiseError_of_no_error he]
    rfl
  · obtain ⟨i, rfl⟩ := exists_eq_encode.mpr hv
    rw [hidle hp, idleWordEffect_encode, ← he]
    exact idleEffect_keeps_error (fun hi => hclr (hi ▸ encode_clrerr))
      fun hi => beq_iff_eq.mpr (henc (hi ▸ encode_encrypt))
  · obtain rfl : v = encode .clrerr := hv
    rw [hidle hp, idleWordEffect_encode]
    exact ⟨rfl, rfl⟩

/-! ## Precision (60 R175) -/

/-- Inputs that raise an error have no effect but to raise one cause beside the engine step (60 R175). -/
theorem cycle_of_raisesError {c : CycleIn} {s : State} (h : raisesError c s) :
    ∃ k, cycle c s = andThen (engineStep s) (raiseError k) := by
  obtain ⟨a, v, rfl, ha, hcause⟩ := h
  rw [show cycle (writeIn a v) s = hostWrite a v s from rfl]
  by_cases hp : s.phase = phaseIdle
  · obtain ⟨rfl, hword⟩ := hcause.resolve_left fun hb => busy_eq_true.mp hb hp
    rw [hostWrite_addrCmd_idle hp, engineStep_idle hp]
    obtain hv | ⟨rfl, hv⟩ := hword
    · exact ⟨.illegalCmd, by rw [idleWordEffect_of_ne_encode (cmdWordWf_eq_false.mp hv), andThen_of_next]⟩
    · exact ⟨.noSchedule, by rw [idleWordEffect_encode, idleEffect_encrypt_of_no_schedule hv, andThen_of_next]⟩
  · exact ⟨.busy, by rw [hostWrite_busy hp, if_pos ha, rejectBusy]⟩

/-- Settles O19: the error is raised on the state the cycle without the write ends in, which has the old error record. -/
theorem errorsArePrecise : Obligations.ErrorsArePrecise := by
  intro s u c hc hu
  have hu : engineStep s = .next u := hu
  obtain ⟨k, hk⟩ := cycle_of_raisesError hc
  obtain ⟨-, -, -, -, -, -, he, hcode, -⟩ := engineStep_keeps hu
  exact ⟨k.code, k.code_cases, by rw [hk, hu, andThen_of_next, raiseError, he, hcode]⟩

/-! ## The record over a step (60 R174, R180) -/

/-- A write to WSET while idle that neither clears the error record nor raises an error keeps the record (60 R180). -/
theorem idleWriteEffect_keeps_error {s : State} {a : Addr} {v : Word} (ha : inWset a = true) (hp : s.phase = phaseIdle)
    (hclr : ¬ clearsError (writeIn a v) s) (hrse : ¬ raisesError (writeIn a v) s) :
    (idleWriteEffect a v s).err = s.err ∧ (idleWriteEffect a v s).errcode = s.errcode := by
  obtain ⟨rfl, i, rfl, e⟩ | ⟨rfl, hv, -⟩ | ⟨i, -, e⟩ | ⟨-, -, k0, k1, k2, k3, l, r, e⟩ := idleWriteEffect_cases ha v s
  · rw [e]
    refine idleEffect_keeps_error (fun hi => ?_) fun hi => ?_
    · exact hclr ⟨by rw [hi], busy_eq_false.mpr hp⟩
    · exact (Bool.not_eq_false _).mp fun hs => hrse ⟨_, _, rfl, ha, .inr ⟨rfl, .inr ⟨by rw [hi], hs⟩⟩⟩
  · exact absurd ⟨_, _, rfl, ha, .inr ⟨rfl, .inl (cmdWordWf_eq_false.mpr hv)⟩⟩ hrse
  · rw [e]; exact ⟨rfl, rfl⟩
  · rw [e]; exact ⟨rfl, rfl⟩

/-- A step without reset whose inputs neither clear the error record nor raise an error keeps the record (60 R180). -/
theorem step_keeps_error {s t : State} (h : step s = .next t) (hr : (hostInput s).rst = false)
    (hclr : ¬ clearsError (hostInput s) s) (hrse : ¬ raisesError (hostInput s) s) :
    t.err = s.err ∧ t.errcode = s.errcode := by
  obtain ⟨hr', -⟩ | ⟨-, -, w, r, hw, rfl⟩ | ⟨-, hp, ⟨a, v, hx, ha⟩, -⟩ | ⟨-, hp, a, v, hx, ha, rfl⟩ := step_cases h
  · simp [hr] at hr'
  · obtain ⟨-, -, -, -, -, -, he, hcode, -⟩ := engineStep_keeps hw
    exact ⟨he, hcode⟩
  · exact absurd ⟨a, v, eq_writeIn hr hx, ha, .inl (busy_eq_true.mpr hp)⟩ hrse
  · rw [eq_writeIn hr hx] at hclr hrse
    exact idleWriteEffect_keeps_error (s := nextCycle (hostRest s) s) ha hp hclr hrse

/-- Settles O40: a reset, an accepted CLRERR, an error raised beside the engine step, and every other step. -/
theorem errIsStickyAndTheFirstErrorWins : Obligations.ErrIsStickyAndTheFirstErrorWins := by
  intro s t h
  refine ⟨fun hr => ?_, fun ⟨hc, hb⟩ => ?_, fun hrse => ?_, step_keeps_error h⟩
  · obtain ⟨r, d, rfl⟩ := step_reset hr h
    exact ⟨rfl, rfl⟩
  · rw [step_eq, hc] at h
    have hclr := hostWrite_addrCmd_idle (s := nextCycle (hostRest s) s) (busy_eq_false.mp hb) (encode .clrerr)
    obtain rfl := Host.Outcome.next.inj (hclr.symm.trans h)
    rw [idleWordEffect_encode]
    exact ⟨rfl, rfl⟩
  · obtain ⟨k, hk⟩ := cycle_of_raisesError (s := nextCycle (hostRest s) s) hrse
    rw [step_eq, hk, andThen_next] at h
    obtain ⟨u, hu, rfl⟩ := h
    obtain ⟨-, -, -, -, -, -, he, hcode, -⟩ := engineStep_keeps hu
    rw [raiseError_err, raiseError_errcode, he, hcode, nextCycle_err, nextCycle_errcode]
    refine ⟨rfl, fun hs => if_pos hs, fun hs => ?_⟩
    rw [if_neg (ne_true_of_eq_false hs)]
    exact k.code_cases

end Sys2Proof.Machine

/-! PROOFS, family 70 (reset and hazards). First the state a reset leaves, then two runs that differ in data only. -/

namespace Sys2Proof.Machine

/-! ## ENCRYPT after a reset (70 R212) -/

/-- Settles O51: a reset leaves the core idle with no entry marked and no error recorded. -/
theorem encryptAfterResetIsRefused : Obligations.EncryptAfterResetIsRefused := by
  intro s t hr h
  obtain ⟨r, d, rfl⟩ := step_reset hr h
  refine ⟨rfl, ?_⟩
  rw [exec_idle rfl, idleEffect_encrypt_of_no_schedule rfl, raiseError_of_no_error rfl]
  rfl

end Sys2Proof.Machine

namespace Sys2Proof.Machine

/-! ## Independence of the data (70 R214): every operation takes two states that agree in control to two that do -/

variable {s t : State}

/-- A read returns the value before the edge (20 R56). -/
theorem step_rdata_of_readIn {a : Addr} (hx : hostInput s = readIn a) (h : step s = .next t) :
    t.rdata = some (readValue a s) := by
  rw [step_eq, hx, cycle_readIn, andThen_next] at h
  obtain ⟨u, -, rfl⟩ := h
  rfl

/-- Two operations of one shape are the same, or two writes to one address that differ in their data. -/
theorem sameShape_cases {o p : HostOp} (h : sameShape o p) :
    o = p ∨ ∃ r a v w, o = .cycle ⟨r, .write a v⟩ ∧ p = .cycle ⟨r, .write a w⟩ ∧ (a = addrCmd → v = w) := by
  unfold sameShape at h
  split at h
  · obtain ⟨rfl, rfl, hv⟩ := h
    exact .inr ⟨_, _, _, _, rfl, rfl, hv⟩
  · exact .inl h

/-- Agreement in control, and in which cycles return read data. -/
structure SameTiming (s t : State) : Prop extends SameControl s t where
  port : s.rdata.isSome = t.rdata.isSome

namespace SameControl

theorem busy (h : SameControl s t) : busy s = busy t := by
  rw [Machine.busy, Machine.busy, h.sequencer.1]

theorem schedValid (h : SameControl s t) : schedValid s = schedValid t := by
  rw [Machine.schedValid, Machine.schedValid, h.mask]

/-- STATUS shows control fields only (10 R32). -/
theorem statusWord (h : SameControl s t) : statusWord s = statusWord t := by
  obtain ⟨hph, hcnt, hcomb⟩ := h.sequencer
  obtain ⟨he, hcode⟩ := h.error
  rw [Machine.statusWord, Machine.statusWord, hph, hcnt, hcomb, he, hcode, h.valid, h.busy, h.schedValid]

/-- The two hosts present inputs of one shape and go on in one shape: a WAIT ends in the same cycle for both, as BUSY agrees. -/
theorem hostInput_hostRest (h : SameControl s t) :
    sameShape (.cycle (hostInput s)) (.cycle (hostInput t)) ∧ List.Forall₂ sameShape (hostRest s) (hostRest t) := by
  have hh := h.hosts
  unfold hostInput hostRest
  rw [← h.busy]
  generalize s.host = xs at hh ⊢
  generalize t.host = ys at hh ⊢
  cases hh with
  | nil => exact ⟨rfl, .nil⟩
  | @cons o _ _ _ hxy hrest =>
    obtain rfl | ⟨r, a, v, w, rfl, rfl, -⟩ := sameShape_cases hxy
    · cases o with
      | cycle c => exact ⟨hxy, hrest⟩
      | wait =>
        refine ⟨rfl, ?_⟩
        dsimp only
        split
        · exact .cons hxy hrest
        · exact hrest
    · exact ⟨hxy, hrest⟩

end SameControl

namespace SameTiming

/-! ### The named operations -/

theorem nextCycle (h : SameControl s t) {xs ys : List HostOp} (hxy : List.Forall₂ sameShape xs ys) :
    SameTiming (nextCycle xs s) (nextCycle ys t) :=
  { h with hosts := hxy, port := rfl }

theorem returnRead (h : SameTiming s t) (v w : Word) : SameTiming (returnRead v s) (returnRead w t) :=
  { h with port := rfl }

theorem raiseError (h : SameTiming s t) (c : ErrCause) : SameTiming (raiseError c s) (raiseError c t) :=
  { h with error := ⟨rfl, by simp [h.error]⟩ }

theorem clearError (h : SameTiming s t) : SameTiming (clearError s) (clearError t) :=
  { h with error := ⟨rfl, rfl⟩ }

theorem resetRegisters (h : SameTiming s t) : SameTiming (resetRegisters s) (resetRegisters t) :=
  { h with sequencer := ⟨rfl, rfl, rfl⟩, mask := rfl, valid := rfl, error := ⟨rfl, rfl⟩ }

theorem resetCycle (h : SameTiming s t) (x : Txn) : SameTiming (resetCycle x s) (resetCycle x t) := by
  cases x with
  | noTxn => exact h.resetRegisters
  | read a => exact { h.resetRegisters with port := rfl }
  | write a v => exact h.resetRegisters

theorem writeRk (h : SameTiming s t) (i : Fin 22) (v w : Word) : SameTiming (writeRk i v s) (writeRk i w t) :=
  { h with mask := by simp [h.mask] }

/-- A register write changes control by its address only: RKV where it names an entry, else nothing. -/
theorem writeRegister (h : SameTiming s t) (a : Addr) (v w : Word) :
    SameTiming (writeRegister a v s) (writeRegister a w t) := by
  unfold Machine.writeRegister
  iterate 6 (split; · exact { h with })
  split
  · exact h.writeRk _ v w
  · exact h

/-! ### The commands -/

theorem startPhase (h : SameTiming s t) (p : BitVec 2) (c : Bool) : SameTiming (startPhase p c s) (startPhase p c t) :=
  { h with sequencer := ⟨rfl, rfl, rfl⟩ }

theorem loadKeyEngine (h : SameTiming s t) : SameTiming (loadKeyEngine s) (loadKeyEngine t) :=
  { h with mask := rfl }

theorem loadBlock (h : SameTiming s t) : SameTiming (loadBlock s) (loadBlock t) :=
  { h with valid := rfl }

/-- Whether ENCRYPT is accepted depends on RKV, not on the entries (60 R172). -/
theorem idleEffect (h : SameTiming s t) (i : Instr) : SameTiming (idleEffect i s) (idleEffect i t) := by
  cases i with
  | nop => exact h
  | expand => exact h.loadKeyEngine.startPhase _ _
  | encrypt =>
    simp only [Machine.idleEffect, ← h.schedValid]
    split
    · exact h.loadBlock.startPhase _ _
    · exact h.raiseError _
  | encryptCombined => exact h.loadKeyEngine.loadBlock.startPhase _ _
  | clrerr => exact h.clearError

theorem idleWordEffect (h : SameTiming s t) (v : Word) : SameTiming (idleWordEffect v s) (idleWordEffect v t) := by
  unfold Machine.idleWordEffect
  split
  · exact h.idleEffect _
  · exact h.raiseError _

theorem idleWriteEffect (h : SameTiming s t) {a : Addr} {v w : Word} (hv : a = addrCmd → v = w) :
    SameTiming (idleWriteEffect a v s) (idleWriteEffect a w t) := by
  unfold Machine.idleWriteEffect
  split
  · next ha => exact hv ha ▸ h.idleWordEffect v
  · split
    · exact h.writeRegister a v w
    · exact h

/-! ### The engines: the sequencer runs by CNT and COMB, whatever the words are -/

theorem ksCycle (h : SameTiming s t) (i : Fin 22) : SameTiming (ksCycle i s) (ksCycle i t) :=
  { h with sequencer := by simp [h.sequencer], mask := by simp [h.mask] }

theorem encCycle (h : SameTiming s t) (i : Fin 22) : SameTiming (encCycle i s) (encCycle i t) :=
  { h with sequencer := by simp [h.sequencer], valid := by simp [h.valid] }

theorem engineStep (h : SameTiming s t) {u : State} (hu : engineStep s = .next u) :
    ∃ w, Machine.engineStep t = .next w ∧ SameTiming u w := by
  obtain ⟨hph, hcnt, -⟩ := h.sequencer
  obtain ⟨hp, rfl⟩ | ⟨hp, hc, rfl⟩ | ⟨hp, hc, rfl⟩ := engineStep_cases hu
  · exact ⟨t, engineStep_idle (hph ▸ hp), h⟩
  · exact ⟨_, engineStep_ksCycle (hph ▸ hp) (congrArg BitVec.toNat hcnt.symm), h.ksCycle _⟩
  · exact ⟨_, engineStep_encCycle (hph ▸ hp) (congrArg BitVec.toNat hcnt.symm), h.encCycle _⟩

/-! ### The cycle and the step -/

/-- An engine step followed by two operations that keep the agreement. -/
theorem andThen (h : SameTiming s t) {f g : State → State} (hfg : ∀ {u w}, SameTiming u w → SameTiming (f u) (g w)) {s' : State}
    (hs : andThen (Machine.engineStep s) f = .next s') :
    ∃ t', Machine.andThen (Machine.engineStep t) g = .next t' ∧ SameTiming s' t' := by
  obtain ⟨u, hu, rfl⟩ := andThen_next.mp hs
  obtain ⟨w, hw, huw⟩ := h.engineStep hu
  exact ⟨g w, andThen_next.mpr ⟨w, hw, rfl⟩, hfg huw⟩

theorem hostWrite (h : SameTiming s t) {a : Addr} {v w : Word} (hv : a = addrCmd → v = w) {s' : State}
    (hs : hostWrite a v s = .next s') : ∃ t', Machine.hostWrite a w t = .next t' ∧ SameTiming s' t' := by
  have hph : s.phase = t.phase := h.sequencer.1
  by_cases hp : s.phase = phaseIdle
  · rw [hostWrite_idle hp] at hs
    cases hs
    exact ⟨_, hostWrite_idle (hph ▸ hp) a w, h.idleWriteEffect hv⟩
  · rw [hostWrite_busy hp] at hs
    rw [hostWrite_busy (hph ▸ hp)]
    by_cases ha : inWset a = true
    · rw [if_pos ha] at hs ⊢
      exact h.andThen (fun huw => huw.raiseError _) hs
    · rw [if_neg ha] at hs ⊢
      exact h.engineStep hs

/-- A cycle with the same inputs in both. -/
theorem cycle (h : SameTiming s t) {c : CycleIn} {s' : State} (hs : cycle c s = .next s') :
    ∃ t', Machine.cycle c t = .next t' ∧ SameTiming s' t' := by
  obtain ⟨rst, txn⟩ := c
  cases rst with
  | true =>
    cases hs
    exact ⟨_, rfl, h.resetCycle txn⟩
  | false =>
    cases txn with
    | noTxn => exact h.engineStep hs
    | read a => exact h.andThen (fun huw => huw.returnRead _ _) hs
    | write a v => exact h.hostWrite (fun _ => rfl) hs

/-- A cycle with inputs of one shape. -/
theorem cycle_of_sameShape (h : SameTiming s t) {c d : CycleIn} (hcd : sameShape (.cycle c) (.cycle d)) {s' : State}
    (hs : Machine.cycle c s = .next s') : ∃ t', Machine.cycle d t = .next t' ∧ SameTiming s' t' := by
  obtain he | ⟨rst, a, v, w, hc, hd, hv⟩ := sameShape_cases hcd
  · cases he
    exact h.cycle hs
  · cases hc
    cases hd
    cases rst with
    | true =>
      cases hs
      exact ⟨_, rfl, h.resetRegisters⟩
    | false => exact h.hostWrite hv hs

end SameTiming

/-- A step takes two states that agree in control to two that do, with read data in the same cycles. -/
theorem SameControl.step (h : SameControl s t) {s' : State} (hs : step s = .next s') :
    ∃ t', Machine.step t = .next t' ∧ SameTiming s' t' := by
  obtain ⟨hin, hrest⟩ := h.hostInput_hostRest
  exact (SameTiming.nextCycle h hrest).cycle_of_sameShape hin hs

/-- Settles O57: each operation of a cycle keeps the agreement, because control never depends on data; STATUS shows control only. -/
theorem statusIsIndependentOfData : Obligations.StatusIsIndependentOfData := by
  intro s t h
  refine ⟨h.statusWord, fun s' hs => ?_⟩
  obtain ⟨t', ht, hst⟩ := h.step hs
  refine ⟨t', ht, hst.toSameControl, hst.port, fun hx => ?_⟩
  have hy : hostInput t = readIn addrStatus := by
    obtain he | ⟨r, a, v, w, hc, -⟩ := sameShape_cases h.hostInput_hostRest.1
    · exact (HostOp.cycle.inj he).symm.trans hx
    · cases hx.symm.trans (HostOp.cycle.inj hc)
  calc s'.rdata = some (statusWord s) := step_rdata_of_readIn hx hs
    _ = some (statusWord t) := by rw [h.statusWord]
    _ = t'.rdata := (step_rdata_of_readIn hy ht).symm

end Sys2Proof.Machine

/-! PROOFS, family other. First single cycles (acceptance, idle writes, reset), the encryption as a bijection and the listing words;
then the stops of a step, the two invariants, the events that change a register, and the latency of a command. -/

namespace Sys2Proof.Machine

/-! ## Single cycles (20 R56, R57; 41 R116; 42 R133; 43 R150; 70 R200) -/

/-- Settles O13: the idle effect of EXPAND. -/
theorem expandIsAcceptedWhileIdle : Obligations.ExpandIsAcceptedWhileIdle :=
  ⟨encode_expand, fun _ hp => exec_idle hp .expand⟩

/-- Settles O14: the idle effect of ENCRYPT, with and without a complete schedule. -/
theorem encryptIsAcceptedWithACompleteSchedule : Obligations.EncryptIsAcceptedWithACompleteSchedule := by
  refine ⟨encode_encrypt, fun s hp hm => exec_encrypt_idle hp hm, fun s hp hm => ?_⟩
  rw [exec_idle hp, idleEffect_encrypt_of_no_schedule (schedValid_eq_false.mpr hm)]
  rfl

/-- Settles O15: the idle effect of ENCRYPT_COMBINED. -/
theorem combinedIsAcceptedWhileIdle : Obligations.CombinedIsAcceptedWhileIdle :=
  ⟨encode_encryptCombined, fun _ hp => exec_idle hp .encryptCombined⟩

/-- Settles O45: each address is in WSET, and the idle effect of its write is the write of one register. -/
theorem idleWritesStoreKeyAndPlaintext : Obligations.IdleWritesStoreKeyAndPlaintext := fun _ v hp =>
  ⟨hostWrite_idle hp 0x02#6 v, hostWrite_idle hp 0x03#6 v, hostWrite_idle hp 0x04#6 v, hostWrite_idle hp 0x05#6 v,
    hostWrite_idle hp 0x06#6 v, hostWrite_idle hp 0x07#6 v⟩

/-- A reset cycle returns read data exactly where a read is presented (20 R69; log 3). -/
theorem resetCycle_rdata_isSome {s : State} (h : s.rdata = none) (x : Txn) :
    (resetCycle x s).rdata.isSome = true ↔ ∃ a, x = .read a := by
  cases x <;> simp [resetCycle, h]

/-- Settles O49: the step is the reset cycle, whose registers are those of `resetRegisters`. -/
theorem resetWorksFromEveryState : Obligations.ResetWorksFromEveryState := by
  intro s hr
  have hstep : step s = .next (resetCycle (hostInput s).txn (nextCycle (hostRest s) s)) := by
    rw [step_eq, cycle, if_pos hr]
  have hport := resetCycle_rdata_isSome (nextCycle_rdata s (hostRest s)) (hostInput s).txn
  obtain ⟨r, d, heq⟩ := resetCycle_eq (hostInput s).txn (nextCycle (hostRest s) s)
  rw [heq] at hstep hport
  exact ⟨_, hstep, rfl, rfl, rfl, rfl, rfl, rfl, rfl, rfl, rfl, rfl, rfl, rfl, rfl, rfl, rfl, rfl, rfl, rfl, rfl, rfl, hport⟩

/-- Settles O52: the decoder computes on each of the words. -/
theorem assignedWordsDecode : Obligations.AssignedWordsDecode :=
  ⟨rfl, rfl, rfl, rfl, rfl, rfl, rfl, rfl⟩

/-- Settles O55: the cycle of the write runs the word, and the word is the command it decodes to. -/
theorem stepRunsTheDecodedCommand : Obligations.StepRunsTheDecodedCommand := by
  intro s v i rest hh hv
  have hin : hostInput s = writeIn addrCmd v := by rw [hostInput, hh]
  have hrest : hostRest s = rest := by rw [hostRest, hh]
  calc step s = commandWord v (nextCycle rest s) := by rw [step_eq, hin, hrest]; rfl
    _ = exec i (nextCycle rest s) := by rw [commandWord, hv]

/-! ## The encryption as a bijection (42 section 3, Determinism) -/

/-- Rounds in turn are a bijection, because each of them is (40 R97). -/
theorem foldl_speckRound_bijective (ks : List Word) :
    Function.Bijective fun p : Word × Word => ks.foldl (fun q k => speckRound q.1 q.2 k) p := by
  induction ks with
  | nil => exact Function.bijective_id
  | cons k ks ih => exact ih.comp (speckRound_bijective k)

/-- Settles O9: the encryption is its rounds in turn. -/
theorem encryptionIsABijectionOnBlocks : Obligations.EncryptionIsABijectionOnBlocks :=
  fun S => foldl_speckRound_bijective (S.toList.take 22)

/-! ## The listing words (30 R72) -/

/-- A TXN24 word is its three fields, and each field stands at its bits. -/
theorem append_eq_iff_fields {k : BitVec 2} {a : Addr} {d : Word} {w : BitVec 24} :
    k ++ a ++ d = w ↔ txnKind w = k ∧ txnAddr w = a ∧ txnData w = d := by
  constructor
  · rintro rfl
    refine ⟨?_, ?_, ?_⟩
    · rw [txnKind, BitVec.extractLsb'_append_eq_of_le (by decide), BitVec.extractLsb'_append_eq_of_le (by decide)]
      exact BitVec.extractLsb'_eq_self
    · rw [txnAddr, BitVec.extractLsb'_append_eq_of_le (by decide)]
      exact BitVec.extractLsb'_append_eq_right
    · exact BitVec.extractLsb'_append_eq_right
  · rintro ⟨rfl, rfl, rfl⟩
    rw [txnKind, txnAddr, txnData, BitVec.extractLsb'_append_extractLsb'_eq_extractLsb' (by decide)]
    rw [BitVec.extractLsb'_append_extractLsb'_eq_extractLsb' (by decide)]
    exact BitVec.extractLsb'_eq_self

/-- The fields of a TXN24 word as digits of a number. -/
theorem toNat_append_fields (k : BitVec 2) (a : Addr) (d : Word) :
    (k ++ a ++ d).toNat = k.toNat * 0x400000 + a.toNat * 0x10000 + d.toNat := by
  rw [BitVec.toNat_append, BitVec.toNat_append, ← Nat.shiftLeft_add_eq_or_of_lt d.isLt,
    ← Nat.shiftLeft_add_eq_or_of_lt a.isLt, Nat.shiftLeft_eq, Nat.shiftLeft_eq]
  omega

/-- The values of a field of two bits, such as KIND (30 R72) and PHASE (10 R40). -/
theorem twoBits_cases (k : BitVec 2) : k = 0#2 ∨ k = 1#2 ∨ k = 2#2 ∨ k = 3#2 := by
  revert k
  decide

/-- A word is the encoding of a cycle exactly when it decodes to that cycle: for each kind the two say the same of the fields. -/
theorem encodeTxn24_eq_some_iff (c : CycleIn) (w : BitVec 24) : encodeTxn24 c = some w ↔ decodeTxn24 w = some c := by
  have hk := twoBits_cases (txnKind w)
  match c with
  | ⟨true, .read _⟩ | ⟨true, .write _ _⟩ | ⟨true, .noTxn⟩ | ⟨false, .noTxn⟩ | ⟨false, .read _⟩ | ⟨false, .write _ _⟩ =>
    simp only [encodeTxn24, Option.some.injEq, append_eq_iff_fields, decodeTxn24, idleIn, readIn, writeIn, rstIn]
    obtain hk | hk | hk | hk := hk <;> simp [hk, and_comm]

theorem ofNat_eq_append_fields {k : BitVec 2} {a : Addr} {d : Word} {n : Nat}
    (h : n = k.toNat * 0x400000 + a.toNat * 0x10000 + d.toNat) : k ++ a ++ d = BitVec.ofNat 24 n := by
  rw [h, ← toNat_append_fields, BitVec.ofNat_toNat, BitVec.setWidth_eq]

/-- Settles O54: decoding undoes encoding kind by kind, and the word of three fields is their number. -/
theorem txn24WordsRoundTrip : Obligations.Txn24WordsRoundTrip := by
  refine ⟨encodeTxn24_eq_some_iff, fun c => ?_, fun a => ?_, fun a v => ?_, rfl, rfl⟩
  · obtain ⟨rst, txn⟩ := c
    cases rst <;> cases txn <;> simp [encodeTxn24]
  · exact congrArg some (ofNat_eq_append_fields (by simp))
  · exact congrArg some (ofNat_eq_append_fields (by simp))

end Sys2Proof.Machine

namespace Sys2Proof.Machine

/-! ## Where a step stops (93 U6; log 7, log 8) -/

/-- What follows a part of a step keeps its refusal. -/
theorem andThen_refused {o : Result} {f : State → State} {r : Refusal} : andThen o f = .refused r ↔ o = .refused r := by
  cases o <;> simp [andThen]

theorem andThen_fault {o : Result} {f : State → State} {r : Fault} : andThen o f = .fault r ↔ o = .fault r := by
  cases o <;> simp [andThen]

theorem andThen_id (o : Result) : andThen o (fun s => s) = o := by
  cases o <;> rfl

/-- A cycle without reset is the engine step and then an operation on registers, which cannot stop (20 R56). -/
theorem cycle_eq_andThen {c : CycleIn} (hr : c.rst = false) (s : State) : ∃ f, cycle c s = andThen (engineStep s) f := by
  obtain ⟨rst, txn⟩ := c
  cases hr
  cases txn with
  | noTxn => exact ⟨fun s => s, (andThen_id _).symm⟩
  | read a => exact ⟨returnRead (readValue a s), rfl⟩
  | write a v =>
    by_cases hp : s.phase = phaseIdle
    · refine ⟨idleWriteEffect a v, ?_⟩
      rw [engineStep_idle hp, andThen_of_next]
      exact hostWrite_idle hp a v
    · have hc : cycle ⟨false, .write a v⟩ s = if inWset a then rejectBusy s else engineStep s := hostWrite_busy hp a v
      rw [hc]
      split
      · exact ⟨raiseError .busy, rfl⟩
      · exact ⟨fun s => s, (andThen_id _).symm⟩

/-- An engine cycle stops exactly at a CNT that is no round (10 R41; log 8). -/
theorem atRound_refused {f : Fin 22 → State → State} {s : State} {r : Refusal} :
    atRound f s = .refused r ↔ 22 ≤ s.cnt.toNat ∧ r = .roundOutOfRange := by
  unfold atRound
  split
  · next h => simp [h]
  · next h => simp [Nat.le_of_not_lt h, eq_comm]

/-- The reserved phase has no engine cycle (10 R35, 93 U6; log 7). -/
theorem engineStep_reserved {s : State} (hp : s.phase = 3#2) : engineStep s = .refused .phaseReserved := by
  rw [engineStep, hp, if_neg (by decide), if_neg (by decide), if_neg (by decide)]

/-- Where the engine step stops, and under which name (10 R35, R41; log 7, log 8). -/
theorem engineStep_refused {s : State} {r : Refusal} : engineStep s = .refused r ↔
    (s.phase = 3#2 ∧ r = .phaseReserved) ∨
    ((s.phase = phaseKS ∨ s.phase = phaseENC) ∧ 22 ≤ s.cnt.toNat ∧ r = .roundOutOfRange) := by
  obtain hp | hp | hp | hp := twoBits_cases s.phase
  · rw [engineStep_idle hp]
    simp [hp]
  · rw [engineStep_ks hp, atRound_refused]
    simp [hp]
  · rw [engineStep_enc hp, atRound_refused]
    simp [hp]
  · rw [engineStep_reserved hp]
    simp [hp, phaseKS, phaseENC, eq_comm (a := Refusal.phaseReserved)]

/-- A step stops exactly where its engine step does, in a cycle without reset. -/
theorem step_refused {s : State} {r : Refusal} :
    step s = .refused r ↔ (hostInput s).rst = false ∧ engineStep (nextCycle (hostRest s) s) = .refused r := by
  rw [step_eq]
  cases hr : (hostInput s).rst with
  | true => simp [cycle, hr]
  | false =>
    obtain ⟨f, hf⟩ := cycle_eq_andThen hr (nextCycle (hostRest s) s)
    rw [hf, andThen_refused]
    simp

/-- Settles O33: the engine step is the only part of a step that stops; the type of faults is empty. -/
theorem stepStopsOnlyOnReservedSequencerValues : Obligations.StepStopsOnlyOnReservedSequencerValues := by
  intro s
  simp only [ne_eq, step_refused, engineStep_refused, nextCycle_phase, nextCycle_cnt]
  exact ⟨by simp, by simp, by simp, nofun⟩

/-- Settles O32: with legal PHASE and CNT the engine step answers, and nothing after it stops. -/
theorem stepAnswersFromInv : Obligations.StepAnswersFromInv := by
  intro s hi
  rw [step_eq]
  cases hr : (hostInput s).rst with
  | true => exact ⟨_, by rw [cycle, if_pos hr]⟩
  | false =>
    obtain ⟨f, hf⟩ := cycle_eq_andThen hr (nextCycle (hostRest s) s)
    obtain ⟨u, hu⟩ := engineStep_answers (s := nextCycle (hostRest s) s) hi.phaseLegal hi.cntLegal
    exact ⟨f u, by rw [hf, hu, andThen_of_next]⟩

end Sys2Proof.Machine

namespace Sys2Proof.Machine

/-! ## The invariant of the registers (10 R34, R35, R41, R42; 41 R119; 42 R133; 43 R150) -/

/-- The number of a round after the first fits the counter. -/
theorem toNat_ofNat_round {n : Nat} (hn : n < 21) : (BitVec.ofNat 5 (n + 1)).toNat = n + 1 := by
  rw [BitVec.toNat_ofNat]
  omega

/-- Before the last round the key-schedule phase goes on with the next round (10 R40, R41). -/
theorem ksCycle_goes_on {s : State} {i : Fin 22} (hp : s.phase = phaseKS) (hc : s.cnt.toNat = i.val) (hi : i.val < 21) :
    (ksCycle i s).phase = phaseKS ∧ (ksCycle i s).cnt.toNat = i.val + 1 := by
  rw [ksCycle_phase_eq hp, ksCycle_cnt_eq hc, if_pos hi, if_pos hi]
  exact ⟨rfl, toNat_ofNat_round hi⟩

/-- With the last round the phase ends, and the counter is 0 (10 R40, R41). -/
theorem ksCycle_ends {s : State} {i : Fin 22} (hp : s.phase = phaseKS) (hc : s.cnt.toNat = i.val) (hi : ¬ i.val < 21) :
    (ksCycle i s).phase = (if s.comb then phaseENC else phaseIdle) ∧ (ksCycle i s).cnt = 0#5 := by
  rw [ksCycle_phase_eq hp, ksCycle_cnt_eq hc, if_neg hi, if_neg hi]
  exact ⟨rfl, rfl⟩

/-- The rules of 10 R34 on ERR and ERRCODE, as in `Inv`. -/
structure ErrorRecord (s : State) : Prop where
  clear : s.err = false → s.errcode = 0#4
  code : s.err = true → s.errcode = 1#4 ∨ s.errcode = 2#4 ∨ s.errcode = 3#4

namespace Inv

variable {s w : State}

/-! ### What the invariant asks in each phase -/

theorem of_idle (hp : s.phase = phaseIdle) (hcnt : s.cnt = 0#5) (hcomb : s.comb = false) (he : ErrorRecord s) : Inv s where
  phaseLegal := .inl hp
  cntLegal := by simp [hcnt]
  idleCnt _ := hcnt
  idleComb _ := hcomb
  noError := he.clear
  errorCode := he.code
  ksMask h := absurd (hp.symm.trans h) phaseIdle_ne_ks
  encMask h := absurd (hp.symm.trans h) phaseIdle_ne_enc
  encCt h := absurd (hp.symm.trans h) phaseIdle_ne_enc
  combCt h := absurd (hp.symm.trans h) phaseIdle_ne_ks

theorem of_ks (hp : s.phase = phaseKS) (hcnt : s.cnt.toNat < 22) (hm : s.rkv = lowMask s.cnt.toNat)
    (hct : s.comb = true → s.ctValid = false) (he : ErrorRecord s) : Inv s where
  phaseLegal := .inr (.inl hp)
  cntLegal := hcnt
  idleCnt h := absurd (hp.symm.trans h) phaseKS_ne_idle
  idleComb h := absurd (hp.symm.trans h) phaseKS_ne_idle
  noError := he.clear
  errorCode := he.code
  ksMask _ := hm
  encMask h := absurd (hp.symm.trans h) phaseKS_ne_enc
  encCt h := absurd (hp.symm.trans h) phaseKS_ne_enc
  combCt _ := hct

theorem of_enc (hp : s.phase = phaseENC) (hcnt : s.cnt.toNat < 22) (hm : s.rkv = fullMask) (hct : s.ctValid = false)
    (he : ErrorRecord s) : Inv s where
  phaseLegal := .inr (.inr hp)
  cntLegal := hcnt
  idleCnt h := absurd (hp.symm.trans h) phaseENC_ne_idle
  idleComb h := absurd (hp.symm.trans h) phaseENC_ne_idle
  noError := he.clear
  errorCode := he.code
  ksMask h := absurd (hp.symm.trans h) phaseENC_ne_ks
  encMask _ := hm
  encCt _ := hct
  combCt h := absurd (hp.symm.trans h) phaseENC_ne_ks

/-! ### The named operations -/

theorem resetRegisters (s : State) : Inv (resetRegisters s) := of_idle rfl rfl rfl ⟨fun _ => rfl, nofun⟩

theorem nextCycle (h : Inv s) (hs : List HostOp) : Inv (nextCycle hs s) := { h with }

theorem raiseError (h : Inv s) (k : ErrCause) : Inv (raiseError k s) :=
  { h with
    noError := nofun
    errorCode := fun _ => by
      rw [raiseError_errcode]
      split
      · next he => exact h.errorCode he
      · exact k.code_cases }

theorem clearError (h : Inv s) : Inv (clearError s) := { h with noError := fun _ => rfl, errorCode := nofun }

/-! ### The commands and writes while idle -/

theorem idleEffect (h : Inv s) (i : Instr) : Inv (idleEffect i s) := by
  cases i with
  | nop => exact h
  | expand => exact of_ks rfl (Nat.zero_lt_succ _) rfl nofun ⟨h.noError, h.errorCode⟩
  | encrypt =>
    rw [Machine.idleEffect]
    split
    · next hv => exact of_enc rfl (Nat.zero_lt_succ _) (beq_iff_eq.mp hv) rfl ⟨h.noError, h.errorCode⟩
    · exact h.raiseError _
  | encryptCombined => exact of_ks rfl (Nat.zero_lt_succ _) rfl (fun _ => rfl) ⟨h.noError, h.errorCode⟩
  | clrerr => exact h.clearError

/-- While idle the invariant asks nothing of the mask, the key and the plaintext. -/
theorem idleWriteEffect (h : Inv s) (hp : s.phase = phaseIdle) {a : Addr} (ha : inWset a = true) (v : Word) :
    Inv (idleWriteEffect a v s) := by
  obtain ⟨-, i, -, e⟩ | ⟨-, -, e⟩ | ⟨i, -, e⟩ | ⟨-, -, k0, k1, k2, k3, l, r, e⟩ := idleWriteEffect_cases ha v s
  · rw [e]; exact h.idleEffect i
  · rw [e]; exact h.raiseError _
  · rw [e]; exact of_idle hp (h.idleCnt hp) (h.idleComb hp) ⟨h.noError, h.errorCode⟩
  · rw [e]; exact of_idle hp (h.idleCnt hp) (h.idleComb hp) ⟨h.noError, h.errorCode⟩

/-! ### The engines -/

/-- A key-schedule cycle marks the entry of its round; after the last round the mask is complete (41 R119). -/
theorem ksCycle (h : Inv s) (hp : s.phase = phaseKS) {i : Fin 22} (hc : s.cnt.toNat = i.val) : Inv (ksCycle i s) := by
  have hmask : (Machine.ksCycle i s).rkv = lowMask (i.val + 1) := by rw [ksCycle_rkv, h.ksMask hp, hc, setRkv_lowMask]
  have herr : ErrorRecord (Machine.ksCycle i s) := ⟨h.noError, h.errorCode⟩
  by_cases hi : i.val < 21
  · obtain ⟨hphase, hcnt⟩ := ksCycle_goes_on hp hc hi
    exact of_ks hphase (by omega) (hcnt ▸ hmask) (h.combCt hp) herr
  · obtain ⟨hphase, hcnt⟩ := ksCycle_ends hp hc hi
    have hlast : i.val = 21 := by omega
    rw [hlast] at hmask
    cases hcomb : s.comb with
    | true =>
      rw [hcomb, if_pos rfl] at hphase
      exact of_enc hphase (hcnt ▸ Nat.zero_lt_succ _) hmask (h.combCt hp hcomb) herr
    | false =>
      rw [hcomb, if_neg Bool.false_ne_true] at hphase
      exact of_idle hphase hcnt hcomb herr

/-- An encryption cycle leaves the mask, and CT_VALID until the last round (42 R134). -/
theorem encCycle (h : Inv s) (hp : s.phase = phaseENC) {i : Fin 22} (hc : s.cnt.toNat = i.val) : Inv (encCycle i s) := by
  by_cases hi : i.val < 21
  · rw [encCycle_of_lt hi, cnt_add_one hc]
    have hn := toNat_ofNat_round hi
    exact of_enc hp (by dsimp only; omega) (h.encMask hp) (h.encCt hp) ⟨h.noError, h.errorCode⟩
  · rw [encCycle_last (by omega)]
    exact of_idle rfl rfl rfl ⟨h.noError, h.errorCode⟩

theorem engineStep (h : Inv s) (hw : engineStep s = .next w) : Inv w := by
  obtain ⟨-, rfl⟩ | ⟨hp, hc, rfl⟩ | ⟨hp, hc, rfl⟩ := engineStep_cases hw
  · exact h
  · exact h.ksCycle hp rfl
  · exact h.encCycle hp rfl

end Inv

/-- Settles O28: the state after reset has the registers of a reset. -/
theorem invHoldsAtReset : Obligations.InvHoldsAtReset := Inv.resetRegisters State.reset

/-- Settles O29: each operation of a step keeps the invariant. -/
theorem stepKeepsInv : Obligations.StepKeepsInv := by
  intro s t h hs
  obtain ⟨hr, -⟩ | ⟨-, -, w, r, hw, rfl⟩ | ⟨-, -, -, w, hw, rfl⟩ | ⟨-, hp, a, v, -, ha, rfl⟩ := step_cases hs
  · obtain ⟨r, d, rfl⟩ := step_reset hr hs
    exact { Inv.resetRegisters (nextCycle (hostRest s) s) with }
  · exact { h.engineStep hw with }
  · exact ((h.engineStep hw).nextCycle _).raiseError _
  · exact (h.nextCycle _).idleWriteEffect hp ha v

end Sys2Proof.Machine

namespace Sys2Proof.Machine

/-! ## The agreement of a running command with the cipher functions (41 R119, 42 R138, 43 R151) -/

variable {s t u w : State} {n : Nat}

namespace Progress

/-- While idle no command runs. -/
theorem of_idle (hp : s.phase = phaseIdle) : Progress s where
  ksLoop h := absurd (hp.symm.trans h) phaseIdle_ne_ks
  ksEntries h := absurd (hp.symm.trans h) phaseIdle_ne_ks
  combBlock h := absurd (hp.symm.trans h) phaseIdle_ne_ks
  encBlock h := absurd (hp.symm.trans h) phaseIdle_ne_enc
  combSchedule h := absurd (hp.symm.trans h) phaseIdle_ne_enc

theorem of_enc (hp : s.phase = phaseENC) (hb : (s.dpX, s.dpY) = blockLoop s.rk s.ptL s.ptR s.cnt.toNat)
    (hs : s.comb = true → s.rk = keySchedule s) : Progress s where
  ksLoop h := absurd (hp.symm.trans h) phaseENC_ne_ks
  ksEntries h := absurd (hp.symm.trans h) phaseENC_ne_ks
  combBlock h := absurd (hp.symm.trans h) phaseENC_ne_ks
  encBlock _ := hb
  combSchedule _ := hs

/-- In the key-schedule phase the agreement is that of a phase that began with the registers as they are now. -/
theorem ksProgress (h : Progress s) (hi : Inv s) (hp : s.phase = phaseKS) : KsProgress s s.cnt.toNat s where
  running _ := ⟨hp, rfl⟩
  left hn := absurd hn hi.cntLegal.ne
  loop := by
    obtain ⟨ha, hb⟩ := h.ksLoop hp
    rw [Machine.ksLoop, ha, hb]
  mask := hi.ksMask hp
  entries := h.ksEntries hp
  comb := rfl
  key := ⟨rfl, rfl, rfl, rfl⟩
  block := ⟨rfl, rfl, rfl, rfl, rfl, rfl, rfl⟩

/-- In the encryption phase likewise. -/
theorem encProgress (h : Progress s) (hi : Inv s) (hp : s.phase = phaseENC) : EncProgress s s.cnt.toNat s where
  running _ := ⟨hp, rfl, rfl, rfl, rfl, rfl⟩
  finished hn := absurd hn hi.cntLegal.ne
  block := h.encBlock hp
  rk := rfl
  inputs := ⟨rfl, rfl, rfl, rfl, rfl, rfl⟩
  keyEngine := ⟨rfl, rfl, rfl⟩

end Progress

/-- The rounds of a key-schedule phase keep the agreement, its end included: the encryption phase of ENCRYPT_COMBINED begins with
the plaintext in DP_X and DP_Y and the schedule in RK. -/
theorem KsProgress.progress (h : KsProgress u n t) (hn : n ≤ 22) (hb : u.comb = true → u.dpX = u.ptL ∧ u.dpY = u.ptR) :
    Progress t := by
  obtain ⟨hk0, hk1, hk2, hk3⟩ := h.key
  obtain ⟨hl, hr, -, -, -, hx, hy⟩ := h.block
  have hsched : keySchedule t = keySchedule u := by rw [keySchedule, keySchedule, hk0, hk1, hk2, hk3]
  obtain hlt | rfl := Nat.lt_or_eq_of_le hn
  · obtain ⟨hp, hc⟩ := h.running hlt
    have hloop : ksLoop t = keyProgress t t.cnt.toNat := by
      rw [h.loop, hc, keyProgress, keyProgress, hk0, hk1, hk2, hk3]
    exact {
      ksLoop := fun _ => ⟨congrArg KeyLoop.a hloop, congrArg KeyLoop.b hloop⟩
      ksEntries := fun _ i hi => by
        rw [hsched]
        exact h.entries i (hc ▸ hi)
      combBlock := fun _ hcomb => by
        rw [hx, hy, hl, hr]
        exact hb (h.comb ▸ hcomb)
      encBlock := fun he => absurd (hp.symm.trans he) phaseKS_ne_enc
      combSchedule := fun he => absurd (hp.symm.trans he) phaseKS_ne_enc }
  · cases hcomb : u.comb with
    | true =>
      obtain ⟨hdx, hdy⟩ := hb hcomb
      have henc := h.encProgress hcomb hdx hdy
      obtain ⟨hp, hc, -⟩ := henc.running (by decide)
      exact .of_enc hp (hc ▸ henc.block) fun _ => h.rk_eq.trans hsched.symm
    | false =>
      obtain ⟨hp, -⟩ := h.left rfl
      rw [hcomb, if_neg Bool.false_ne_true] at hp
      exact .of_idle hp

/-- The rounds of an encryption phase keep the agreement. -/
theorem EncProgress.progress (h : EncProgress u n t) (hn : n ≤ 22) (hs : u.comb = true → u.rk = keySchedule u) :
    Progress t := by
  obtain ⟨hk0, hk1, hk2, hk3, hl, hr⟩ := h.inputs
  obtain hlt | rfl := Nat.lt_or_eq_of_le hn
  · obtain ⟨hp, hc, hcomb, -⟩ := h.running hlt
    refine .of_enc hp ?_ fun hct => ?_
    · rw [h.block, h.rk, hl, hr, hc]
    · rw [h.rk, hs (hcomb ▸ hct), keySchedule, keySchedule, hk0, hk1, hk2, hk3]
  · obtain ⟨hp, -⟩ := h.finished rfl
    exact .of_idle hp

namespace Progress

/-- An accepted command begins its phase in agreement (41 R116, 42 R133, 43 R150). -/
theorem idleEffect (hp : s.phase = phaseIdle) (i : Instr) : Progress (idleEffect i s) := by
  cases i with
  | nop => exact of_idle hp
  | expand =>
    have h0 : KsProgress (acceptExpand s) 0 (acceptExpand s) := .init rfl rfl rfl rfl
    exact h0.progress (by decide) nofun
  | encrypt =>
    rw [Machine.idleEffect]
    split
    · have h0 : EncProgress (acceptEncrypt s) 0 (acceptEncrypt s) := .init rfl rfl rfl rfl
      exact h0.progress (by decide) nofun
    · exact of_idle hp
  | encryptCombined => exact (ksProgress_acceptCombined s).progress (by decide) fun _ => ⟨rfl, rfl⟩
  | clrerr => exact of_idle hp

theorem engineStep (h : Progress s) (hi : Inv s) (hw : engineStep s = .next w) : Progress w := by
  obtain ⟨-, rfl⟩ | ⟨hp, hc, rfl⟩ | ⟨hp, hc, rfl⟩ := engineStep_cases hw
  · exact h
  · exact (KsProgress.ksCycle (i := ⟨s.cnt.toNat, hc⟩) (h.ksProgress hi hp)).progress hc (h.combBlock hp)
  · exact (EncProgress.encCycle (i := ⟨s.cnt.toNat, hc⟩) (h.encProgress hi hp)).progress hc (h.combSchedule hp)

/-- Neither the port, nor the host, nor the error record matters to it. -/
theorem port (h : Progress s) (hs : List HostOp) (r : Option Word) (e : Bool) (k : BitVec 4) :
    Progress { s with host := hs, rdata := r, err := e, errcode := k } :=
  ⟨h.ksLoop, h.ksEntries, h.combBlock, h.encBlock, h.combSchedule⟩

end Progress

/-- Settles O30: after reset no command runs. -/
theorem progressHoldsAtReset : Obligations.ProgressHoldsAtReset := .of_idle rfl

/-- Settles O31: a reset and an idle step leave the core idle or at the start of a command; any other step is a round. -/
theorem stepKeepsProgress : Obligations.StepKeepsProgress := by
  intro s t hi h hs
  cases hr : (hostInput s).rst with
  | true =>
    obtain ⟨r, d, rfl⟩ := step_reset hr hs
    exact .of_idle rfl
  | false =>
    by_cases hp : s.phase = phaseIdle
    · obtain ⟨-, r, rfl⟩ | ⟨i, -, rfl⟩ | ⟨v, -, -, rfl⟩ | ⟨i, v, -, rfl⟩ | ⟨a, v, -, -, -, k0, k1, k2, k3, l, r, rfl⟩ :=
        step_idle hr hp hs
      case inr.inl => exact .idleEffect (s := nextCycle (hostRest s) s) hp i
      all_goals exact .of_idle hp
    · obtain ⟨w, r, e, c, hw, rfl⟩ := step_busy hr hp hs
      exact (h.engineStep hi hw).port _ r e c

/-- Settles O48: the entries below CNT are final, and the others are not marked. -/
theorem partialScheduleIsReadable : Obligations.PartialScheduleIsReadable := by
  intro s j hi h hp
  split
  · next hj => exact (h.ksProgress hi hp).readValue_rkAddr j hj
  · next hj =>
    have hw : rkWritten j s = false := by rw [rkWritten, hi.ksMask hp, getLsbD_lowMask, decide_eq_false hj]
    rw [readValue_rkAddr, rkRead, if_neg (ne_true_of_eq_false hw)]

end Sys2Proof.Machine

namespace Sys2Proof.Machine

/-! ## Which events change PHASE and CT (10 R25, R26, R40) -/

variable {s t w : State}

/-- The last round is the one numbered 21. -/
theorem cnt_eq_last : s.cnt = 21#5 ↔ s.cnt.toNat = 21 := by
  rw [← BitVec.toNat_inj]
  rfl

/-- From an idle state a step without reset is an accepted or refused command, or it leaves the sequencer and CT alone. -/
theorem step_idle_command (hr : (hostInput s).rst = false) (hp : s.phase = phaseIdle) (h : step s = .next t) :
    (∃ i, hostInput s = writeIn addrCmd (encode i) ∧ t = idleEffect i (nextCycle (hostRest s) s)) ∨
    ((∀ i, hostInput s ≠ writeIn addrCmd (encode i)) ∧ t.phase = phaseIdle ∧ t.ctL = s.ctL ∧ t.ctR = s.ctR ∧
      t.ctValid = s.ctValid) := by
  obtain ⟨hn, r, rfl⟩ | ⟨i, hc, rfl⟩ | ⟨v, hc, hv, rfl⟩ | ⟨i, v, hc, rfl⟩ | ⟨a, v, hc, ha, -, k0, k1, k2, k3, l, r, rfl⟩ :=
    step_idle hr hp h
  · exact .inr ⟨fun i e => by simpa using hn _ _ e, hp, rfl, rfl, rfl⟩
  · exact .inl ⟨i, hc, rfl⟩
  · exact .inr ⟨fun i e => hv i (writeIn_inj.mp (hc.symm.trans e)).2, hp, rfl, rfl, rfl⟩
  · refine .inr ⟨fun j e => ?_, hp, rfl, rfl, rfl⟩
    exact absurd (writeIn_inj.mp (hc.symm.trans e)).1 (by simp)
  · exact .inr ⟨fun i e => ha (writeIn_inj.mp (hc.symm.trans e)).1, hp, rfl, rfl, rfl⟩

/-- Which commands start which phase (41 R116, 42 R133, 43 R150). -/
theorem idleEffect_phase (hp : s.phase = phaseIdle) (i : Instr) :
    ((idleEffect i s).phase = phaseKS ↔ i = .expand ∨ i = .encryptCombined) ∧
    ((idleEffect i s).phase = phaseENC ↔ i = .encrypt ∧ schedValid s = true) := by
  cases i with
  | encrypt =>
    rw [idleEffect]
    split
    · next hv => simp [acceptEncrypt, hv]
    · next hv => simp [hp, hv]
  | expand => simp [idleEffect, acceptExpand]
  | encryptCombined => simp [idleEffect, acceptCombined]
  | nop => simp [idleEffect, hp]
  | clrerr => simp [idleEffect, hp]

/-- The phase after a step from an idle state. -/
theorem step_idle_phase (hr : (hostInput s).rst = false) (hp : s.phase = phaseIdle) (h : step s = .next t) :
    (t.phase = phaseKS ↔
      hostInput s = writeIn addrCmd (encode .expand) ∨ hostInput s = writeIn addrCmd (encode .encryptCombined)) ∧
    (t.phase = phaseENC ↔ hostInput s = writeIn addrCmd (encode .encrypt) ∧ schedValid s = true) := by
  obtain ⟨i, hc, rfl⟩ | ⟨hn, ht, -⟩ := step_idle_command hr hp h
  · simp only [hc, writeIn_inj, encode_inj, true_and]
    exact idleEffect_phase (s := nextCycle (hostRest s) s) hp i
  · simp only [ht, hn]
    simp

theorem engineStep_phase_ks (hp : s.phase = phaseKS) (hw : engineStep s = .next w) :
    w.phase = if s.cnt = 21#5 then (if s.comb then phaseENC else phaseIdle) else phaseKS := by
  rw [engineStep_ks hp, atRound_next] at hw
  obtain ⟨hc, rfl⟩ := hw
  simp only [ksCycle_phase, cnt_eq_last, hp]

theorem engineStep_phase_enc (hp : s.phase = phaseENC) (hw : engineStep s = .next w) :
    w.phase = if s.cnt = 21#5 then phaseIdle else phaseENC := by
  rw [engineStep_enc hp, atRound_next] at hw
  obtain ⟨hc, rfl⟩ := hw
  simp only [encCycle_phase, cnt_eq_last, hp]

/-- Settles O34: a reset, the last or another round of each engine, and the idle step. -/
theorem phaseChangesOnlyAsTheSequencerTableSays : Obligations.PhaseChangesOnlyAsTheSequencerTableSays := by
  intro s t _ h
  refine ⟨fun hr => ?_, fun hr => ⟨fun hp => ?_, fun hp => ?_, fun hp => step_idle_phase hr hp h⟩⟩
  · obtain ⟨r, d, rfl⟩ := step_reset hr h
    rfl
  · obtain ⟨w, r, e, c, hw, rfl⟩ := step_busy hr (by simp [hp]) h
    exact (engineStep_phase_ks hp hw :)
  · obtain ⟨w, r, e, c, hw, rfl⟩ := step_busy hr (by simp [hp]) h
    exact (engineStep_phase_enc hp hw :)

/-- The completion edge writes the new block to CT and sets CT_VALID (42 R135). -/
theorem engineStep_completion (hp : s.phase = phaseENC) (hc : s.cnt = 21#5) (hw : engineStep s = .next w) :
    w.ctL = w.dpX ∧ w.ctR = w.dpY ∧ w.ctValid = true := by
  rw [engineStep_enc hp, atRound_next] at hw
  obtain ⟨hlt, rfl⟩ := hw
  rw [encCycle_last (cnt_eq_last.mp hc)]
  exact ⟨rfl, rfl, rfl⟩

/-- Every other engine cycle leaves CT and CT_VALID (10 R25, R26). -/
theorem engineStep_keeps_ct (hn : ¬ (s.phase = phaseENC ∧ s.cnt = 21#5)) (hw : engineStep s = .next w) :
    w.ctL = s.ctL ∧ w.ctR = s.ctR ∧ w.ctValid = s.ctValid := by
  obtain ⟨-, rfl⟩ | ⟨-, -, rfl⟩ | ⟨hp, hc, rfl⟩ := engineStep_cases hw
  · exact ⟨rfl, rfl, rfl⟩
  · exact ⟨rfl, rfl, rfl⟩
  · have hlt : s.cnt.toNat ≠ 21 := fun h => hn ⟨hp, cnt_eq_last.mpr h⟩
    rw [encCycle_of_lt (Nat.lt_of_le_of_ne (Nat.le_of_lt_succ hc) hlt)]
    exact ⟨rfl, rfl, rfl⟩

/-- What no command changes in its accepting cycle: the key, the plaintext, the ciphertext, the round-key file and the host's
operations (41 R116, 42 R133, 43 R150). -/
theorem idleEffect_keeps (i : Instr) (s : State) :
    (idleEffect i s).key0 = s.key0 ∧ (idleEffect i s).key1 = s.key1 ∧ (idleEffect i s).key2 = s.key2 ∧
    (idleEffect i s).key3 = s.key3 ∧ (idleEffect i s).ptL = s.ptL ∧ (idleEffect i s).ptR = s.ptR ∧
    (idleEffect i s).ctL = s.ctL ∧ (idleEffect i s).ctR = s.ctR ∧ (idleEffect i s).rk = s.rk ∧
    (idleEffect i s).host = s.host := by
  cases i with
  | encrypt =>
    rw [idleEffect]
    split <;> exact ⟨rfl, rfl, rfl, rfl, rfl, rfl, rfl, rfl, rfl, rfl⟩
  | nop | expand | encryptCombined | clrerr => exact ⟨rfl, rfl, rfl, rfl, rfl, rfl, rfl, rfl, rfl, rfl⟩

/-- An accepted encryption clears CT_VALID (42 R133, 43 R150). -/
theorem idleEffect_ctValid (i : Instr) (s : State) : (idleEffect i s).ctValid =
    if i = .encryptCombined ∨ (i = .encrypt ∧ schedValid s = true) then false else s.ctValid := by
  cases i with
  | encrypt =>
    rw [idleEffect]
    split
    · next hv => simp [acceptEncrypt, hv]
    · next hv => simp [hv]
  | nop | expand | encryptCombined | clrerr => rfl

/-- CT and CT_VALID after a step from an idle state. -/
theorem step_idle_ct (hr : (hostInput s).rst = false) (hp : s.phase = phaseIdle) (h : step s = .next t) :
    t.ctL = s.ctL ∧ t.ctR = s.ctR ∧
    t.ctValid = if hostInput s = writeIn addrCmd (encode .encryptCombined) ∨
      (hostInput s = writeIn addrCmd (encode .encrypt) ∧ schedValid s = true) then false else s.ctValid := by
  obtain ⟨i, hc, rfl⟩ | ⟨hn, -, hl, hr, hv⟩ := step_idle_command hr hp h
  · simp only [hc, writeIn_inj, encode_inj, true_and]
    obtain ⟨-, -, -, -, -, -, hl, hr, -⟩ := idleEffect_keeps i (nextCycle (hostRest s) s)
    exact ⟨hl, hr, idleEffect_ctValid i (nextCycle (hostRest s) s)⟩
  · simp only [hn, hl, hr, hv]
    simp

/-- Settles O38: a reset, the completion edge, the other cycles of the engines, and the idle step. -/
theorem ctChangesOnlyAtCompletion : Obligations.CtChangesOnlyAtCompletion := by
  intro s t h
  refine ⟨fun hr => ?_, fun hr => ⟨fun ⟨hp, hc⟩ => ?_, fun hn => ?_⟩⟩
  · obtain ⟨r, d, rfl⟩ := step_reset hr h
    exact ⟨rfl, rfl, rfl⟩
  · obtain ⟨w, r, e, c, hw, rfl⟩ := step_busy hr (by simp [hp]) h
    exact (engineStep_completion hp hc hw :)
  · by_cases hp : s.phase = phaseIdle
    · simp only [hp, true_and]
      exact step_idle_ct hr hp h
    · obtain ⟨w, r, e, c, hw, rfl⟩ := step_busy hr hp h
      simp only [hp, false_and, if_false]
      exact (engineStep_keeps_ct hn hw :)

end Sys2Proof.Machine

namespace Sys2Proof.Machine

/-! ## The writers of RK, KEY, PT and the BUSY code (10 R27, R45; 60 R173) -/

variable {s t w : State}

/-- An entry of the file after a write of entry `i`: the word written, if it is that entry, or the old one. -/
theorem getElem_set_eq_or (rk : Vector Word 22) (i j : Fin 22) (v : Word) :
    (i = j ∧ (rk.set i v)[j] = v) ∨ (rk.set i v)[j] = rk[j] := by
  obtain rfl | hij := eq_or_ne i j
  · exact .inl ⟨rfl, Vector.getElem_set_self _⟩
  · exact .inr (Vector.getElem_set_ne _ _ (Fin.val_ne_of_ne hij))

/-- The engines write RK only in the key-schedule cycle, at its round (41 R117, 42 R136). -/
theorem engineStep_rk {i : Fin 22} (hw : engineStep s = .next w) (hne : w.rk[i] ≠ s.rk[i]) :
    s.phase = phaseKS ∧ s.cnt.toNat = i.val ∧ w.rk[i] = s.ksB := by
  obtain ⟨-, rfl⟩ | ⟨hp, hc, rfl⟩ | ⟨-, _, rfl⟩ := engineStep_cases hw
  · exact absurd rfl hne
  · obtain ⟨rfl, hv⟩ := (getElem_set_eq_or s.rk ⟨s.cnt.toNat, hc⟩ i s.ksB).resolve_right hne
    exact ⟨hp, rfl, hv⟩
  · exact absurd rfl hne

/-- While idle only a write to its address changes an entry. -/
theorem step_idle_rk {i : Fin 22} (hr : (hostInput s).rst = false) (hp : s.phase = phaseIdle) (h : step s = .next t)
    (hne : t.rk[i] ≠ s.rk[i]) : ∃ v, hostInput s = writeIn (rkAddr i) v ∧ t.rk[i] = v := by
  obtain ⟨-, r, rfl⟩ | ⟨j, -, rfl⟩ | ⟨v, -, -, rfl⟩ | ⟨j, v, hc, rfl⟩ | ⟨a, v, -, -, -, k0, k1, k2, k3, l, r, rfl⟩ :=
    step_idle hr hp h
  · exact absurd rfl hne
  · obtain ⟨-, -, -, -, -, -, -, -, hrk, -⟩ := idleEffect_keeps j (nextCycle (hostRest s) s)
    exact absurd (by rw [hrk, nextCycle_rk]) hne
  · exact absurd rfl hne
  · obtain ⟨rfl, hv⟩ := (getElem_set_eq_or s.rk j i v).resolve_right hne
    exact ⟨v, hc, hv⟩
  · exact absurd rfl hne

/-- Settles O37: a reset writes no entry; from a busy state the engine writes, from an idle one the host. -/
theorem rkEntriesHaveTwoWriters : Obligations.RkEntriesHaveTwoWriters := by
  intro s t i h hne
  cases hr : (hostInput s).rst with
  | true =>
    obtain ⟨r, d, rfl⟩ := step_reset hr h
    exact absurd rfl hne
  | false =>
    by_cases hp : s.phase = phaseIdle
    · exact ⟨rfl, .inr ⟨hp, step_idle_rk hr hp h hne⟩⟩
    · obtain ⟨w, r, e, c, hw, rfl⟩ := step_busy hr hp h
      exact ⟨rfl, .inl (engineStep_rk (w := w) hw hne)⟩

/-- A register write changes at most the key or plaintext word at its own address, beside the round-key file (20 R57). -/
theorem writeRegister_eq (a : Addr) (v : Word) (s : State) : ∃ m z, writeRegister a v s = { s with
    key0 := if a = 0x02#6 then v else s.key0
    key1 := if a = 0x03#6 then v else s.key1
    key2 := if a = 0x04#6 then v else s.key2
    key3 := if a = 0x05#6 then v else s.key3
    ptL := if a = 0x06#6 then v else s.ptL
    ptR := if a = 0x07#6 then v else s.ptR
    rk := m
    rkv := z } := by
  unfold writeRegister
  iterate 6 (split; · next ha => exact ⟨s.rk, s.rkv, by simp [ha]⟩)
  split
  · next i _ => exact ⟨s.rk.set i v, setRkv i s.rkv, by simp [writeRk, *]⟩
  · exact ⟨s.rk, s.rkv, by simp [*]⟩

/-- The key and the plaintext after a write to WSET while idle. -/
theorem idleWriteEffect_inputs {a : Addr} (ha : inWset a = true) (v : Word) (s : State) :
    (idleWriteEffect a v s).key0 = (if a = 0x02#6 then v else s.key0) ∧
    (idleWriteEffect a v s).key1 = (if a = 0x03#6 then v else s.key1) ∧
    (idleWriteEffect a v s).key2 = (if a = 0x04#6 then v else s.key2) ∧
    (idleWriteEffect a v s).key3 = (if a = 0x05#6 then v else s.key3) ∧
    (idleWriteEffect a v s).ptL = (if a = 0x06#6 then v else s.ptL) ∧
    (idleWriteEffect a v s).ptR = (if a = 0x07#6 then v else s.ptR) := by
  by_cases hc : a = addrCmd
  · subst hc
    rw [idleWriteEffect, if_pos rfl, idleWordEffect]
    split
    · next i _ =>
      obtain ⟨hk0, hk1, hk2, hk3, hl, hr, -⟩ := idleEffect_keeps i s
      exact ⟨hk0, hk1, hk2, hk3, hl, hr⟩
    · exact ⟨rfl, rfl, rfl, rfl, rfl, rfl⟩
  · rw [idleWriteEffect, if_neg hc, if_pos ha]
    obtain ⟨m, z, e⟩ := writeRegister_eq a v s
    rw [e]
    exact ⟨rfl, rfl, rfl, rfl, rfl, rfl⟩

/-- A word that a write changes only at address `b` was written there, if it changed. -/
theorem eq_writeIn_of_changed {c : CycleIn} {a b : Addr} {v x y : Word} (hc : c = writeIn a v)
    (hx : x = if a = b then v else y) (hne : x ≠ y) : c = writeIn b x := by
  split at hx
  · next ha => rw [hc, ha, hx]
  · exact absurd hx hne

/-- Settles O39: the engine keeps the six words, and a write while idle changes at most the one at its address. -/
theorem keyAndPlaintextChangeOnlyByTheHost : Obligations.KeyAndPlaintextChangeOnlyByTheHost := by
  intro s t h hr
  by_cases hp : s.phase = phaseIdle
  · obtain ⟨hr', -⟩ | ⟨-, -, w, r, hw, rfl⟩ | ⟨-, hb, -⟩ | ⟨-, -, a, v, hx, ha, rfl⟩ := step_cases h
    · simp [hr] at hr'
    · rw [engineStep_idle hp] at hw
      cases hw
      exact ⟨absurd rfl, absurd rfl, absurd rfl, absurd rfl, absurd rfl, absurd rfl⟩
    · exact absurd hp hb
    · obtain ⟨hk0, hk1, hk2, hk3, hl, hrt⟩ := idleWriteEffect_inputs ha v (nextCycle (hostRest s) s)
      have hc := eq_writeIn hr hx
      exact ⟨fun hne => ⟨hp, eq_writeIn_of_changed hc hk0 hne⟩, fun hne => ⟨hp, eq_writeIn_of_changed hc hk1 hne⟩,
        fun hne => ⟨hp, eq_writeIn_of_changed hc hk2 hne⟩, fun hne => ⟨hp, eq_writeIn_of_changed hc hk3 hne⟩,
        fun hne => ⟨hp, eq_writeIn_of_changed hc hl hne⟩, fun hne => ⟨hp, eq_writeIn_of_changed hc hrt hne⟩⟩
  · obtain ⟨w, r, e, c, hw, rfl⟩ := step_busy hr hp h
    obtain ⟨hk0, hk1, hk2, hk3, hl, hrt, -⟩ := engineStep_keeps hw
    exact ⟨absurd hk0, absurd hk1, absurd hk2, absurd hk3, absurd hl, absurd hrt⟩

/-- A command while idle with no error recorded does not report BUSY. -/
theorem idleEffect_errcode_ne_busy (he : s.err = false) (hc : s.errcode ≠ 1#4) (i : Instr) :
    (idleEffect i s).errcode ≠ 1#4 := by
  cases i with
  | nop | expand | encryptCombined => exact hc
  | encrypt =>
    rw [idleEffect]
    split
    · exact hc
    · rw [raiseError_of_no_error he]
      exact (by decide : ErrCause.noSchedule.code ≠ 1#4)
  | clrerr => exact (by decide : 0#4 ≠ 1#4)

/-- Nor does any other write while idle. -/
theorem idleWriteEffect_errcode_ne_busy (he : s.err = false) (hc : s.errcode ≠ 1#4) {a : Addr} (ha : inWset a = true)
    (v : Word) : (idleWriteEffect a v s).errcode ≠ 1#4 := by
  obtain ⟨-, i, -, e⟩ | ⟨-, -, e⟩ | ⟨i, -, e⟩ | ⟨-, -, k0, k1, k2, k3, l, r, e⟩ := idleWriteEffect_cases ha v s
  · rw [e]
    exact idleEffect_errcode_ne_busy he hc i
  · rw [e, raiseError_of_no_error he]
    exact (by decide : ErrCause.illegalCmd.code ≠ 1#4)
  · rw [e]
    exact hc
  · rw [e]
    exact hc

/-- Settles O41: only a write to WSET while busy reports BUSY, and the host's duty excludes it. -/
theorem dutifulHostGetsNoBusyError : Obligations.DutifulHostGetsNoBusyError := by
  intro s t h hduty he hc
  obtain ⟨hr, -⟩ | ⟨-, -, w, r, hw, rfl⟩ | ⟨hr, hp, ⟨a, v, hx, ha⟩, -⟩ | ⟨-, -, a, v, -, ha, rfl⟩ := step_cases h
  · obtain ⟨r, d, rfl⟩ := step_reset hr h
    exact (by decide : 0#4 ≠ 1#4)
  · obtain ⟨-, -, -, -, -, -, -, hcode, -⟩ := engineStep_keeps hw
    exact fun hw1 => hc (hcode.symm.trans hw1)
  · rw [hostDutiful, eq_writeIn hr hx, writeIn] at hduty
    simp [ha, busy_eq_true.mpr hp] at hduty
  · exact idleWriteEffect_errcode_ne_busy (s := nextCycle (hostRest s) s) he hc ha v

end Sys2Proof.Machine

namespace Sys2Proof.Machine

/-! ## Latency (70 sections 3 and 4) -/

/-- The sequencer has `k` rounds before it: none while idle, the rest of the encryption phase, or the rest of the key-schedule
phase and the encryption phase that follows it in ENCRYPT_COMBINED (10 R40 to R42). -/
def RoundsLeft (k : Nat) (s : State) : Prop :=
  (s.phase = phaseIdle ∧ k = 0) ∨
  (s.phase = phaseKS ∧ s.cnt.toNat < 22 ∧ k = 22 - s.cnt.toNat + if s.comb then 22 else 0) ∨
  (s.phase = phaseENC ∧ s.cnt.toNat < 22 ∧ k = 22 - s.cnt.toNat)

namespace RoundsLeft

variable {s w : State} {k : Nat}

theorem idle (h : RoundsLeft 0 s) : s.phase = phaseIdle := by
  obtain ⟨hp, -⟩ | ⟨-, hc, hk⟩ | ⟨-, hc, hk⟩ := h
  · exact hp
  · omega
  · omega

/-- A state of the invariant has at most the 44 rounds of ENCRYPT_COMBINED before it (70 R216). -/
theorem of_inv (h : Inv s) : ∃ k, k ≤ 44 ∧ RoundsLeft k s := by
  obtain hp | hp | hp := h.phaseLegal
  · exact ⟨0, by omega, .inl ⟨hp, rfl⟩⟩
  · refine ⟨_, ?_, .inr (.inl ⟨hp, h.cntLegal, rfl⟩)⟩
    split <;> omega
  · exact ⟨_, by omega, .inr (.inr ⟨hp, h.cntLegal, rfl⟩)⟩

/-- Neither the port, nor the host, nor the error record matters to it. -/
theorem port (h : RoundsLeft k s) (hs : List HostOp) (r : Option Word) (e : Bool) (c : BitVec 4) :
    RoundsLeft k { s with host := hs, rdata := r, err := e, errcode := c } := h

/-- A key-schedule cycle is one round. -/
theorem ksCycle {i : Fin 22} (hp : s.phase = phaseKS) (hc : s.cnt.toNat = i.val)
    (hk : k + 1 = 22 - i.val + if s.comb then 22 else 0) : RoundsLeft k (ksCycle i s) := by
  by_cases hi : i.val < 21
  · obtain ⟨hphase, hcnt⟩ := ksCycle_goes_on hp hc hi
    exact .inr (.inl ⟨hphase, by omega, by rw [hcnt, ksCycle_comb]; omega⟩)
  · obtain ⟨hphase, hcnt⟩ := ksCycle_ends hp hc hi
    cases hcomb : s.comb with
    | true =>
      rw [hcomb, if_pos rfl] at hphase hk
      exact .inr (.inr ⟨hphase, hcnt ▸ Nat.zero_lt_succ _, by rw [hcnt, BitVec.toNat_zero]; omega⟩)
    | false =>
      rw [hcomb, if_neg Bool.false_ne_true] at hphase hk
      exact .inl ⟨hphase, by omega⟩

/-- An encryption cycle is one round. -/
theorem encCycle {i : Fin 22} (hp : s.phase = phaseENC) (hc : s.cnt.toNat = i.val) (hk : k + 1 = 22 - i.val) :
    RoundsLeft k (encCycle i s) := by
  by_cases hi : i.val < 21
  · rw [encCycle_of_lt hi, cnt_add_one hc]
    have hn := toNat_ofNat_round hi
    exact .inr (.inr ⟨hp, by dsimp only; omega, by dsimp only; omega⟩)
  · rw [encCycle_last (by omega)]
    exact .inl ⟨rfl, by omega⟩

/-- While rounds are left the core is busy, and its engine step is one of them. -/
theorem step (h : RoundsLeft (k + 1) s) : s.phase ≠ phaseIdle ∧ ∃ w, engineStep s = .next w ∧ RoundsLeft k w := by
  obtain ⟨-, hk⟩ | ⟨hp, hc, hk⟩ | ⟨hp, hc, hk⟩ := h
  · exact absurd hk (Nat.succ_ne_zero k)
  · exact ⟨by simp [hp], _, engineStep_ksCycle (i := ⟨_, hc⟩) hp rfl, ksCycle hp rfl hk⟩
  · exact ⟨by simp [hp], _, engineStep_encCycle (i := ⟨_, hc⟩) hp rfl, encCycle hp rfl hk⟩

/-- As many cycles without reset as rounds are left end in an idle state, whatever the host does. -/
theorem runCycles (h : RoundsLeft k s) {cs : List CycleIn} (hr : noReset cs) (hk : cs.length = k) :
    ∃ t, runCycles cs s = .next t ∧ t.phase = phaseIdle := by
  have hstep (n : Nat) (t : State) (hn : n < k) (ht : RoundsLeft (k - n) t) :
      t.phase ≠ phaseIdle ∧ ∃ w, Machine.engineStep t = .next w ∧ RoundsLeft (k - (n + 1)) w := by
    rw [show k - n = k - (n + 1) + 1 by omega] at ht
    exact ht.step
  obtain ⟨t, ht, hleft⟩ := runCycles_busy (P := fun n => RoundsLeft (k - n)) hstep
    (fun _ t r e c ht => ht.port t.host r e c) hr (n := 0) h (by omega)
  rw [Nat.zero_add, hk, Nat.sub_self] at hleft
  exact ⟨t, ht, hleft.idle⟩

end RoundsLeft

/-- Settles O27: a state of the invariant has at most 44 rounds left. -/
theorem everyCommandEndsWithin44Cycles : Obligations.EveryCommandEndsWithin44Cycles := by
  intro s cs hi hr hlen
  obtain ⟨k, hk, hleft⟩ := RoundsLeft.of_inv hi
  obtain ⟨t, ht, hp⟩ := hleft.runCycles (cs := cs.take k) (fun c hc => hr c (List.mem_of_mem_take hc))
    (by rw [List.length_take, hlen, Nat.min_eq_left hk])
  exact ⟨k, t, hk, ht, hp⟩

/-! ### WAIT (30 R79, 70 R213) -/

variable {s w : State} {rest : List HostOp} {k m : Nat}

/-- A run is its first step and the run of the others. -/
theorem run_succ {M : Host.Core} {s t : M.State} (h : M.step s = .next t) (n : Nat) : M.run (n + 1) s = M.run n t := by
  rw [Host.Core.run, h]

/-- A run that answers goes on from the state it answers. -/
theorem run_add {M : Host.Core} {s t : M.State} {m : Nat} (h : M.run m s = .next t) (n : Nat) :
    M.run (m + n) s = M.run n t := by
  induction m generalizing s with
  | zero =>
    cases h
    rw [Nat.zero_add]
  | succ m ih =>
    rw [Host.Core.run] at h
    rw [Nat.add_right_comm]
    cases hs : M.step s with
    | next v =>
      rw [hs] at h
      rw [run_succ hs]
      exact ih h
    | fault r => rw [hs] at h; cases h
    | refused r => rw [hs] at h; cases h

/-- A WAIT presents a read of STATUS (30 R79). -/
theorem step_of_wait (hh : s.host = .wait :: rest) :
    step s = andThen (engineStep (nextCycle (hostRest s) s)) (returnRead (statusWord s)) := by
  have hin : hostInput s = readIn addrStatus := by rw [hostInput, hh]
  rw [step_eq, hin]
  rfl

/-- While busy a WAIT stays the host's next operation, beside an engine step. -/
theorem step_wait_busy (hh : s.host = .wait :: rest) (hp : s.phase ≠ phaseIdle) (hw : engineStep s = .next w) :
    step s = .next { w with host := .wait :: rest, rdata := some (statusWord s) } := by
  have hrest : hostRest s = .wait :: rest := by
    rw [hostRest, hh]
    exact if_pos (busy_eq_true.mpr hp)
  rw [step_of_wait hh, hrest, engineStep_nextCycle _ hw]
  rfl

/-- While idle a WAIT ends in its one cycle, in which nothing else happens. -/
theorem step_wait_idle (hh : s.host = .wait :: rest) (hp : s.phase = phaseIdle) :
    step s = .next { s with host := rest, rdata := some (statusWord s) } := by
  have hrest : hostRest s = rest := by
    rw [hostRest, hh]
    exact if_neg (ne_true_of_eq_false (busy_eq_false.mpr hp))
  rw [step_of_wait hh, hrest, engineStep_nextCycle _ (engineStep_idle hp)]
  rfl

/-- A WAIT stays for every round that is left. -/
theorem run_wait (hh : s.host = .wait :: rest) (h : RoundsLeft (m + k) s) :
    ∃ t, Host.Core.run core m s = .next t ∧ RoundsLeft k t ∧ t.host = .wait :: rest := by
  induction m generalizing s with
  | zero => exact ⟨s, rfl, Nat.zero_add k ▸ h, hh⟩
  | succ m ih =>
    rw [Nat.add_right_comm] at h
    obtain ⟨hp, w, hw, hleft⟩ := h.step
    rw [run_succ (M := core) (step_wait_busy hh hp hw)]
    exact ih rfl (hleft.port _ _ _ _)

/-- The rounds a command takes, from its acceptance to its completion (70 R213). -/
def commandRounds : Instr → Nat
  | .nop => 0
  | .expand => Config.latExpand
  | .encrypt => Config.latEncrypt
  | .encryptCombined => Config.latCombined
  | .clrerr => 0

/-- An accepted command leaves the sequencer with the command's rounds before it. -/
theorem roundsLeft_idleEffect (hp : s.phase = phaseIdle) (i : Instr) (hv : i = .encrypt → schedValid s = true) :
    RoundsLeft (commandRounds i) (idleEffect i s) := by
  cases i with
  | nop | clrerr => exact .inl ⟨hp, rfl⟩
  | expand | encryptCombined => exact .inr (.inl ⟨rfl, Nat.zero_lt_succ _, rfl⟩)
  | encrypt =>
    rw [idleEffect, if_pos (hv rfl)]
    exact .inr (.inr ⟨rfl, Nat.zero_lt_succ _, rfl⟩)

/-- Settles O26: one step accepts the command, each of its rounds is a step in which the WAIT reads BUSY = 1, and one more reads
BUSY = 0. -/
theorem waitTakesTheLatencyOfTheCommand : Obligations.WaitTakesTheLatencyOfTheCommand := by
  intro s i rest n hp hh hv hn
  have hn : n = commandRounds i + 1 := by rw [hn]; cases i <;> rfl
  have hstep : step s = .next (idleEffect i (nextCycle (.wait :: rest) s)) := by
    rw [stepRunsTheDecodedCommand s _ i _ hh (decode_eq_ok.mpr rfl)]
    exact exec_idle (s := nextCycle (.wait :: rest) s) hp i
  have hleft := roundsLeft_idleEffect (s := nextCycle (.wait :: rest) s) hp i hv
  have hhost : (idleEffect i (nextCycle (.wait :: rest) s)).host = .wait :: rest := by
    obtain ⟨-, -, -, -, -, -, -, -, -, hkeep⟩ := idleEffect_keeps i (nextCycle (.wait :: rest) s)
    exact hkeep
  have hwait (m : Nat) (hm : m ≤ commandRounds i) : ∃ t, Host.Core.run core (1 + m) s = .next t ∧
      RoundsLeft (commandRounds i - m) t ∧ t.host = .wait :: rest := by
    rw [Nat.add_comm, run_succ (M := core) hstep]
    exact run_wait hhost (by rwa [Nat.add_sub_cancel' hm])
  refine ⟨fun m hm => ?_, ?_⟩
  · obtain ⟨t, ht, -, hwt⟩ := hwait m (by omega)
    exact ⟨t, ht, hwt⟩
  · obtain ⟨t, ht, hidle, hwt⟩ := hwait _ le_rfl
    rw [Nat.sub_self] at hidle
    refine ⟨{ t with host := rest, rdata := some (statusWord t) }, ?_, rfl, hidle.idle⟩
    rw [hn, ← Nat.add_assoc, run_add ht, run_succ (M := core) (step_wait_idle hwt hidle.idle)]
    rfl

end Sys2Proof.Machine
